-- ==== Sys2Proof/Word.lean ====
section
/-! DEFINITION. The word types of the SKV-640: bytes, ship time and the 16-bit counters that wrap (R214, R41). -/

namespace Sys2Proof

/-- A byte of text, of a payload or of a tag (R214). -/
abbrev Byte := BitVec 8

/-- A ship time or a fix time, a count of seconds modulo 2³² (R41). -/
abbrev Time := BitVec 32

/-- A 16-bit counter or set: log entry numbers, collective frame numbers, answer serials, maps (R214). -/
abbrev Half := BitVec 16

end Sys2Proof
end

