-- ==== Sys2Proof/Syntax.lean ====
section
/-! DEFINITION. The commands of the SKV-640: one constructor for each row of spec/opcode_table.json, with the
operands its rule gives. Enumerated fields are carried as the codes of Chapter 11 (R214), since each rule says what an
undefined code does. -/

namespace Sys2Proof

/-- The three console ports (Block overview, 00_scope.md). -/
inductive Port
  | p1 | p2 | p3
  deriving DecidableEq, Repr

/-- The two receive paths (R55). -/
inductive Path
  | main | watch
  deriving DecidableEq, Repr

/-- The two inputs with fixed-length messages (R215). -/
inductive LinkInput
  | control | navigation
  deriving DecidableEq, Repr

/-- What every good request frame carries (R200, 11.3): the port it arrived on, its tag, and whether its body length
fits its kind. -/
structure Req where
  port : Port
  tag  : Byte
  fits : Bool
  deriving DecidableEq, Repr

/-- A volley frame as received (R60, 11.2): whether its check passed, its fields, and its payload bytes. -/
structure RxFrame where
  check   : Bool
  seq     : BitVec 4
  kind    : Nat
  used    : Nat
  payload : List Byte
  deriving DecidableEq, Repr

/-- A volley header as received (R59): whether its check passed, its counter, frame count, length code and OVER. -/
structure RxHeader where
  check   : Bool
  counter : BitVec 8
  count   : Nat
  code    : Nat
  isOver  : Bool
  deriving DecidableEq, Repr

/-- A received tally (R63, 11.2). -/
structure RxTally where
  marks         : BitVec 4
  next          : BitVec 4
  turnGrant     : Bool
  turnRequest   : Bool
  refused       : Bool
  answerWaiting : Bool
  storeFull     : Bool
  deriving DecidableEq, Repr

/-- A received COLLECTIVE frame (R65, 11.2). -/
structure RxCollective where
  station : Nat
  frame   : Half
  second  : Bool
  payload : List Byte
  deriving DecidableEq, Repr

/-- The fields of a received ALERT (R68). -/
structure RxAlert where
  ship    : Nat
  nature  : Nat
  lat     : Int
  lon     : Int
  fixTime : Time
  stale   : Bool
  persons : Nat
  serial  : BitVec 8
  deriving DecidableEq, Repr

/-- What a path was reading when its carrier dropped (R55): a volley whose header was good, with the frames fully
received before the drop, a volley whose header was not, or any other burst. -/
inductive CutBurst
  | volley (h : RxHeader) (frames : List RxFrame)
  | volleyHeader
  | other
  deriving DecidableEq, Repr

/-- How a write to the serial memory ended (R211): DONE, or FAILED leaving the old image or a bad one. -/
inductive WriteResult
  | done | failedKept | failedBad
  deriving DecidableEq, Repr

/-- The configured fields that STATION-SET carries (R27, R28). -/
structure StationArgs where
  number    : Nat
  name      : List Byte
  traffic   : Bool
  broadcast : Bool
  authority : Bool
  channels  : List Nat
  attempts  : Nat
  deriving DecidableEq, Repr

/-- The configured fields that CHANNEL-SET carries (R32, R33). -/
structure ChannelArgs where
  tx        : Nat
  rx        : Nat
  use       : Nat
  startHour : Nat
  endHour   : Nat
  disabled  : Bool
  deriving DecidableEq, Repr

/-- The fields of an area table entry that AREA-SET carries (R50). -/
structure AreaArgs where
  name  : List Byte
  south : Int
  north : Int
  west  : Int
  east  : Int
  deriving DecidableEq, Repr

/-- The configured fields that SCHEDULE-SET carries (R117, R118). -/
structure ScheduleArgs where
  station  : Nat
  channel  : Nat
  start    : Nat
  duration : Nat
  mode     : Nat
  enabled  : Bool
  deriving DecidableEq, Repr

/-- The commands: one constructor per row of spec/opcode_table.json. -/
inductive Instr
  -- power and loading (R212)
  | powerOn (level1 level2 level3 : BitVec 2)
  | loadingEnd
  -- requests on messages (R13 to R22) and the log (R25)
  | create (r : Req) (station precedence : Nat)
  | append (r : Req) (msg : Nat) (bytes : List Byte)
  | submit (r : Req) (msg : Nat)
  | withdraw (r : Req) (msg : Nat)
  | delete (r : Req) (msg : Nat)
  | list (r : Req) (cls state start : Nat)
  | read (r : Req) (msg offset count : Nat)
  | keepSet (r : Req) (msg : Nat)
  | keepClear (r : Req) (msg : Nat)
  | readLog (r : Req) (start : Option Half)
  -- stations, channels, time, position and areas (R27 to R53)
  | stationSet (r : Req) (entry : Nat) (args : StationArgs)
  | stationClear (r : Req) (entry : Nat)
  | stationGet (r : Req) (entry : Nat)
  | holdStation (r : Req) (station : Nat)
  | releaseStation (r : Req) (station : Nat)
  | channelSet (r : Req) (entry : Nat) (args : ChannelArgs)
  | channelClear (r : Req) (entry : Nat)
  | channelDisable (r : Req) (entry : Nat)
  | channelEnable (r : Req) (entry : Nat)
  | channelGet (r : Req) (entry : Nat)
  | setTime (r : Req) (value : Time)
  | position (r : Req) (lat lon : Int)
  | areaSet (r : Req) (area : Nat) (args : AreaArgs)
  | areaClear (r : Req) (area : Nat)
  | areaGet (r : Req) (area : Nat)
  | fixStatus (r : Req)
  -- linked traffic (R73, R76) and directives (R103)
  | callNow (r : Req) (station : Nat)
  | watchStation (r : Req) (station : Option Nat)
  | acceptSet (r : Req) (code addressing value : Nat)
  | acceptGet (r : Req)
  -- broadcasts (R118, R119, R132, R137)
  | scheduleSet (r : Req) (entry : Nat) (args : ScheduleArgs)
  | scheduleClear (r : Req) (entry : Nat)
  | scheduleGet (r : Req) (entry : Nat)
  | areaWatch (r : Req) (areas : BitVec 32)
  | bulletinRegister (r : Req) (start : Nat)
  -- catch (R139 to R159)
  | speciesSet (r : Req) (entry : Nat) (code : List Byte) (quota : Nat)
  | speciesClear (r : Req) (entry : Nat)
  | speciesGet (r : Req) (entry : Nat)
  | factorSet (r : Req) (code : List Byte) (form factor : Nat)
  | factorClear (r : Req) (code : List Byte) (form : Nat)
  | factorGet (r : Req) (start : Nat)
  | postCatch (r : Req) (haul : Nat) (code : List Byte) (form weight kind : Nat)
  | reportTimeSet (r : Req) (minute : Nat)
  | reportNow (r : Req)
  | tripStart (r : Req)
  | tally (r : Req) (start : Nat)
  -- distress (R164 to R181)
  | distress (r : Req) (nature persons : Nat)
  | distressCancel (r : Req)
  | distressClose (r : Req)
  | alarmAck (r : Req) (serial : Nat)
  | distressList (r : Req)
  -- radios (R186, R198)
  | radioRestore (r : Req)
  | radioStatus (r : Req)
  -- ports, grants, notices and settings (R203 to R213)
  | grantSet (r : Req) (port : Nat) (map : Half)
  | distressLevelSet (r : Req) (level : Nat)
  | shipSet (r : Req) (number : Nat) (name callSign : List Byte)
  | routeSet (r : Req) (kinds : Half)
  | poll (r : Req)
  | status (r : Req)
  | saveSettings (r : Req)
  | restart (r : Req)
  | unknownRequest (r : Req) (kind : Nat)
  -- console lines (R199, R201)
  | badFrame (port : Port)
  | consoleInterByteTimeout (port : Port)
  | outputFrameSent (port : Port)
  -- bursts heard (R55, R56)
  | callBurst (path : Path) (station ship purpose waiting : Nat)
  | acceptBurst (path : Path) (station ship : Nat)
  | rejectBurst (path : Path) (station ship reason : Nat)
  | volleyBurst (path : Path) (header : RxHeader) (frames : List RxFrame)
  | tallyBurst (path : Path) (t : RxTally)
  | clearBurst (path : Path) (reason : Nat)
  | collectiveBurst (path : Path) (c : RxCollective) (kind : Nat)
  | collectiveDirectiveBurst (path : Path) (c : RxCollective)
  | alertBurst (path : Path) (a : RxAlert)
  | badBurst (path : Path)
  | carrierDrop (path : Path) (cut : CutBurst)
  -- control link and navigation line (R184, R189, R215, R47)
  | mainTuneAnswer (check : Bool) (tag : BitVec 8) (result : Nat)
  | watchTuneAnswer (check : Bool) (tag : BitVec 8) (result : Nat)
  | linkInterByteTimeout (input : LinkInput)
  | controlCommandSent
  | positionRecord (check : Bool) (mark : Nat) (lat lon : Int)
  -- distress line and the distress unit's events (R163 to R169)
  | distressLineAsserted
  | distressLineReleased
  | holdTimerExpiry
  | granted
  | alertListenSlotExpiry
  | alertCycleWaitExpiry
  -- timers and calendar (R42, R43)
  | nextCallTimeExpiry (entry : Nat)
  | listenWindowExpiry
  | quarterHour
  | awaitFirstWaitExpiry
  | tallyWindowExpiry
  | clearingWaitExpiry
  | receiveWindowExpiry
  | silenceEnd
  | scheduleEntryDue (entry : Nat)
  | windowEnd (entry : Nat)
  | reportTimeDue
  | retryTimerExpiry
  | overdueTimerExpiry (msg : Nat)
  -- serial memory (R160, R211)
  | tallyWriteEnd (result : WriteResult)
  | settingsWriteEnd (result : WriteResult)
  -- more timers (R49, R184, R189, R187)
  | positionAgeExpiry
  | mainTuneTimerExpiry
  | watchTuneTimerExpiry
  | dwellExpiry
  | idleDwellExpiry
  | keyUpTimeExpiry
  | burstEnd
  -- receivers (R55, R199, R215)
  | syncWordMatch (path : Path)
  | undefinedBurstKind (path : Path)
  | consoleStartByte (port : Port)
  | huntingByteDiscarded (port : Port)
  | linkStartByte (input : LinkInput)
  -- power (R211)
  | powerLoss
  deriving DecidableEq, Repr

end Sys2Proof
end

