-- ==== Sys2Proof/WellFormed.lean ====
section
/-! DEFINITION. Which commands the wires can carry: every operand fits the width that R214 and the layouts of
Chapter 11 give it. The meanings are total and do not read this check; a command outside it can be written as a term
but never arrives. -/

namespace Sys2Proof

/-- One, two, three and four unsigned bytes (R214). -/
def fits8 (n : Nat) : Bool := n < 2 ^ 8
def fits16 (n : Nat) : Bool := n < 2 ^ 16
def fits24 (n : Nat) : Bool := n < 2 ^ 24
def fits32 (n : Nat) : Bool := n < 2 ^ 32

/-- Four bytes in two's complement (R214). -/
def fitsSigned (i : Int) : Bool := decide (-(2 ^ 31) ≤ i) && decide (i < 2 ^ 31)

/-- A text argument of a request: a count byte and the bytes, inside a body of at most 250 bytes (11.3). -/
def fitsText (t : List Byte) : Bool := t.length ≤ 250

/-- A list of table indices, one byte each, in a request body. -/
def fitsIndices (l : List Nat) : Bool := (l.length ≤ 250 : Bool) && l.all fits8

/-- A species code takes its fixed width of three bytes (R214). -/
def fitsCode (c : List Byte) : Bool := c.length == 3

/-- The payload length that a header's length code gives (R59, 11.1). -/
def payloadBytes (code : Nat) : Option Nat :=
  match code with
  | 0 => some 8
  | 1 => some 16
  | 2 => some 32
  | _ => none

/-- A header is good when its check passed, its count is 1 to 4 and its length code is defined (R59). -/
def RxHeader.good (h : RxHeader) : Bool :=
  h.check && (1 ≤ h.count : Bool) && (h.count ≤ 4 : Bool) && (payloadBytes h.code).isSome

/-- A frame has the payload length of its header and byte-wide fields (R60). -/
def RxFrame.fitsHeader (h : RxHeader) (f : RxFrame) : Bool :=
  (f.kind < 8 : Bool) && fits8 f.used && some f.payload.length == payloadBytes h.code

/-- A received volley has a good header and as many frames as it announces, or no frame that could be read (R55). -/
def RxHeader.carries (h : RxHeader) (frames : List RxFrame) (whole : Bool) : Bool :=
  fits8 h.count && (h.code < 4 : Bool) &&
    (if h.good then
      (if whole then frames.length == h.count else decide (frames.length < h.count)) && frames.all (·.fitsHeader h)
    else frames.isEmpty)

def RxCollective.wellFormed (c : RxCollective) : Bool := fits24 c.station && c.payload.length == 16

def RxAlert.wellFormed (a : RxAlert) : Bool :=
  fits24 a.ship && fits8 a.nature && fitsSigned a.lat && fitsSigned a.lon && fits8 a.persons

def CutBurst.wellFormed : CutBurst → Bool
  | .volley h frames => h.good && h.carries frames false
  | .volleyHeader => true
  | .other => true

def StationArgs.wellFormed (a : StationArgs) : Bool :=
  fits24 a.number && fitsText a.name && fitsIndices a.channels && fits8 a.attempts

def ChannelArgs.wellFormed (a : ChannelArgs) : Bool :=
  fits24 a.tx && fits24 a.rx && fits8 a.use && fits8 a.startHour && fits8 a.endHour

def AreaArgs.wellFormed (a : AreaArgs) : Bool :=
  fitsText a.name && fitsSigned a.south && fitsSigned a.north && fitsSigned a.west && fitsSigned a.east

def ScheduleArgs.wellFormed (a : ScheduleArgs) : Bool :=
  fits8 a.station && fits8 a.channel && fits16 a.start && fits8 a.duration && fits8 a.mode

/-- Every operand fits its field. -/
def Instr.wellFormed : Instr → Bool
  | .powerOn _ _ _ => true
  | .loadingEnd => true
  | .create _ station precedence => fits24 station && fits8 precedence
  | .append _ msg bytes => fits16 msg && fitsText bytes
  | .submit _ msg => fits16 msg
  | .withdraw _ msg => fits16 msg
  | .delete _ msg => fits16 msg
  | .list _ cls state start => fits8 cls && fits8 state && fits16 start
  | .read _ msg offset count => fits16 msg && fits16 offset && fits8 count
  | .keepSet _ msg => fits16 msg
  | .keepClear _ msg => fits16 msg
  | .readLog _ _ => true
  | .stationSet _ entry args => fits8 entry && args.wellFormed
  | .stationClear _ entry => fits8 entry
  | .stationGet _ entry => fits8 entry
  | .holdStation _ station => fits24 station
  | .releaseStation _ station => fits24 station
  | .channelSet _ entry args => fits8 entry && args.wellFormed
  | .channelClear _ entry => fits8 entry
  | .channelDisable _ entry => fits8 entry
  | .channelEnable _ entry => fits8 entry
  | .channelGet _ entry => fits8 entry
  | .setTime _ _ => true
  | .position _ lat lon => fitsSigned lat && fitsSigned lon
  | .areaSet _ area args => fits8 area && args.wellFormed
  | .areaClear _ area => fits8 area
  | .areaGet _ area => fits8 area
  | .fixStatus _ => true
  | .callNow _ station => fits24 station
  | .watchStation _ station => station.all fits24
  | .acceptSet _ code addressing value => fits8 code && fits8 addressing && fits8 value
  | .acceptGet _ => true
  | .scheduleSet _ entry args => fits8 entry && args.wellFormed
  | .scheduleClear _ entry => fits8 entry
  | .scheduleGet _ entry => fits8 entry
  | .areaWatch _ _ => true
  | .bulletinRegister _ start => fits8 start
  | .speciesSet _ entry code quota => fits8 entry && fitsCode code && fits32 quota
  | .speciesClear _ entry => fits8 entry
  | .speciesGet _ entry => fits8 entry
  | .factorSet _ code form factor => fitsCode code && fits8 form && fits16 factor
  | .factorClear _ code form => fitsCode code && fits8 form
  | .factorGet _ start => fits8 start
  | .postCatch _ haul code form weight kind =>
      fits16 haul && fitsCode code && fits8 form && fits32 weight && fits8 kind
  | .reportTimeSet _ minute => fits16 minute
  | .reportNow _ => true
  | .tripStart _ => true
  | .tally _ start => fits8 start
  | .distress _ nature persons => fits8 nature && fits16 persons
  | .distressCancel _ => true
  | .distressClose _ => true
  | .alarmAck _ serial => fits16 serial
  | .distressList _ => true
  | .radioRestore _ => true
  | .radioStatus _ => true
  | .grantSet _ port _ => fits8 port
  | .distressLevelSet _ level => fits8 level
  | .shipSet _ number name callSign => fits24 number && fitsText name && fitsText callSign
  | .routeSet _ _ => true
  | .poll _ => true
  | .status _ => true
  | .saveSettings _ => true
  | .restart _ => true
  | .unknownRequest _ kind => (kind == 0 || decide (62 ≤ kind)) && fits8 kind
  | .badFrame _ => true
  | .consoleInterByteTimeout _ => true
  | .outputFrameSent _ => true
  | .callBurst _ station ship purpose waiting => fits24 station && fits24 ship && fits8 purpose && fits8 waiting
  | .acceptBurst _ station ship => fits24 station && fits24 ship
  | .rejectBurst _ station ship reason => fits24 station && fits24 ship && fits8 reason
  | .volleyBurst _ header frames => header.carries frames true
  | .tallyBurst _ _ => true
  | .clearBurst _ reason => fits8 reason
  | .collectiveBurst _ c kind => c.wellFormed && decide (kind < 3)
  | .collectiveDirectiveBurst _ c => c.wellFormed
  | .alertBurst _ a => a.wellFormed
  | .badBurst _ => true
  | .carrierDrop _ cut => cut.wellFormed
  | .mainTuneAnswer _ _ result => fits8 result
  | .watchTuneAnswer _ _ result => fits8 result
  | .linkInterByteTimeout _ => true
  | .controlCommandSent => true
  | .positionRecord _ mark lat lon => fits8 mark && fitsSigned lat && fitsSigned lon
  | .distressLineAsserted => true
  | .distressLineReleased => true
  | .holdTimerExpiry => true
  | .granted => true
  | .alertListenSlotExpiry => true
  | .alertCycleWaitExpiry => true
  | .nextCallTimeExpiry entry => decide (1 ≤ entry) && decide (entry ≤ 16)
  | .listenWindowExpiry => true
  | .quarterHour => true
  | .awaitFirstWaitExpiry => true
  | .tallyWindowExpiry => true
  | .clearingWaitExpiry => true
  | .receiveWindowExpiry => true
  | .silenceEnd => true
  | .scheduleEntryDue entry => decide (1 ≤ entry) && decide (entry ≤ 24)
  | .windowEnd entry => decide (1 ≤ entry) && decide (entry ≤ 24)
  | .reportTimeDue => true
  | .retryTimerExpiry => true
  | .overdueTimerExpiry msg => decide (1 ≤ msg) && fits16 msg
  | .tallyWriteEnd _ => true
  | .settingsWriteEnd _ => true
  | .positionAgeExpiry => true
  | .mainTuneTimerExpiry => true
  | .watchTuneTimerExpiry => true
  | .dwellExpiry => true
  | .idleDwellExpiry => true
  | .keyUpTimeExpiry => true
  | .burstEnd => true
  | .syncWordMatch _ => true
  | .undefinedBurstKind _ => true
  | .consoleStartByte _ => true
  | .huntingByteDiscarded _ => true
  | .linkStartByte _ => true
  | .powerLoss => true

end Sys2Proof
end

