-- ==== Sys2Proof/Decode.lean ====
section
/-! DEFINITION. The commands spelled by words of the opcode table. No row of spec/opcode_table.json gives bits (98_reader.md:
n_rows_with_fixed is 0), so no word spells a command. How requests and bursts are laid out in bytes is Chapter 11; the
encodings the part itself sends are in Machine/Formats.lean, and which command the bytes of an input are in Machine/Wire.lean. -/

namespace Sys2Proof

/-- The command that a word of the table spells: none, since the table gives its rows no bits. -/
def decodeTableWord (_nbits _w : Nat) : Option Instr := none

end Sys2Proof
end

