-- ==== Sys2Proof/Config.lean ====
section
/-! DEFINITION. The fixed sizes and lengths of the SKV-640, each with its rule. The spec leaves no result of a command
an undefined value, so there is no free value here. -/

namespace Sys2Proof.Config

/-- Pages in the pool and bytes in a page (R1, 1.1). -/
def pages : Nat := 1024
def pageBytes : Nat := 64
/-- The page reserve and the record reserve (R2, R3). -/
def pageReserve : Nat := 64
def recReserve : Nat := 8
/-- Records in the message table (R3) and bytes in a text (R4). -/
def records : Nat := 128
def textBytes : Nat := 3072
/-- STORE-LOW is raised below the first and armed again from the second (R9). -/
def lowBelow : Nat := 128
def lowArmAt : Nat := 192
/-- Attempts at which a record fails (R6). -/
def maxAttempts : Nat := 5
/-- Entries in the log ring (R23) and entries a READ-LOG returns (R25). -/
def ringEntries : Nat := 64
def readLogMost : Nat := 8
/-- Entries a LIST, BULLETIN-REGISTER, FACTOR-GET or TALLY returns (R20, R137, R140, R159). -/
def pageOfEntries : Nat := 16
/-- Table sizes (R27, R32, R50, R117, R138, R140, R141, R175, R133). -/
def stations : Nat := 16
def channels : Nat := 48
def areas : Nat := 32
def scheduleEntries : Nat := 24
def speciesEntries : Nat := 32
def factorEntries : Nat := 96
def tallyRows : Nat := 64
def distressEntries : Nat := 16
def registerEntries : Nat := 64
/-- Most channels of use DISTRESS (R32), most channels in a station's list (R27). -/
def distressChannels : Nat := 6
def listChannels : Nat := 6
/-- Q of a channel that has learned nothing (R36). -/
def startQ : Nat := 500
/-- Seconds during which a failed call halves a score, and after which a fix is stale (R37, R49). -/
def failureSeconds : Nat := 600
def freshSeconds : Nat := 600
/-- Windows of the link engine, in seconds (R78, R82, R87, R90). -/
def listenWindow : Nat := 2
def awaitFirstWait : Nat := 10
def tallyWindow : Nat := 3
def clearingWait : Nat := 3
def receiveWindow : Nat := 12
/-- CALL bursts in an attempt (R78), frames in a volley (R59), sendings of a frame (R88), missing exchanges (R88). -/
def callsPerAttempt : Nat := 4
def volleyFrames : Nat := 4
def mostSends : Nat := 6
def mostMissing : Nat := 3
/-- Distress unit times, in seconds (R163, R168, R169). -/
def holdSeconds : Nat := 3
def slotSeconds : Nat := 6
def cycleSeconds : Nat := 210
def cycleDraw : Nat := 61
/-- Radio times, in seconds, and the faults that take a radio out of service (R184, R189, R185). -/
def tuneSeconds : Nat := 3
def dwellSeconds : Nat := 2
def mostFaults : Nat := 3
/-- Catch limits and times (R138, R141, R142, R154, R155). -/
def mostKilograms : Nat := 99999999
def mostWeight : Nat := 999999
def retrySeconds : Nat := 600
def overdueSeconds : Nat := 21600
/-- Seconds after which a register entry ages out (R133). -/
def registerSeconds : Nat := 259200
/-- Output queue limits (R200, R201). -/
def queueFull : Nat := 64
def queueNotices : Nat := 48
/-- The defaulted ship number and report time (R205, R147). -/
def defaultShip : Nat := 1000000
def defaultReportTime : Nat := 1380
/-- The most messages between blocks that one command works off (log entry 5). -/
def messageBound : Nat := 512

end Sys2Proof.Config
end

