-- ==== Sys2Proof/Machine/Kinds.lean ====
section
/-! DEFINITION. The named values of the SKV-640: precedences, states, kinds, grants, answers and notices, with the records
that several blocks share. -/

namespace Sys2Proof.Machine

/-- One value for each console port. -/
structure PerPort (α : Type) where
  p1 : α
  p2 : α
  p3 : α
  deriving DecidableEq, Repr

/-- A table: entries under their numbers, in rising order of number, empty entries left out. -/
abbrev Table (α : Type) := List (Nat × α)

/-! ### Messages (R4, R6) -/

inductive Prec
  | distress | urgency | safety | report | routine
  deriving DecidableEq, Repr

inductive Cls
  | traffic | bulletin | report
  deriving DecidableEq, Repr

inductive Dir
  | outbound | inbound
  deriving DecidableEq, Repr

inductive MsgState
  | draft | queued | sending | delivered | confirmed | failed | receiving | stored
  deriving DecidableEq, Repr

inductive Originator
  | port (p : Port) | air | composer
  deriving DecidableEq, Repr

/-- Ordinary or reserve permission of an allocation (R2). -/
inductive Permission
  | ordinary | reserve
  deriving DecidableEq, Repr

/-- Kinds of bulletin (R128). -/
inductive BulletinKind
  | weather | navigation | ice | gale
  deriving DecidableEq, Repr

/-- A bulletin identity: two station letters, a kind letter and a serial 0-99 (R128). -/
structure BulletinId where
  letter1 : Byte
  letter2 : Byte
  kind    : BulletinKind
  serial  : Nat
  deriving DecidableEq, Repr

/-- A report span: from-day and to-day (R4). -/
structure Span where
  fromDay : Nat
  toDay   : Nat
  deriving DecidableEq, Repr

/-- A message record (R4). Its text bytes stand in `text` in page-list order; `textLen` is the announced length. -/
structure MsgRec where
  cls       : Cls
  dir       : Dir
  prec      : Prec
  state     : MsgState
  orig      : Originator
  peer      : Nat
  peerRef   : Option Nat
  created   : Time
  textLen   : Nat
  text      : List Byte
  pages     : List Nat
  attempts  : Nat
  readMask  : PerPort Bool
  keep      : Bool
  withdrawPending : Bool
  delivered : Option Time
  identity  : Option BulletinId
  span      : Option Span
  errFig    : Option Nat
  deriving DecidableEq, Repr

/-! ### The traffic log (R23, R24) -/

inductive LogKind
  | callOut | callIn | session | bulletin | collectiveDirective | alertOut | alertIn | distressAck
  deriving DecidableEq, Repr

inductive LogOutcome
  | complete | lost | superseded | refused | rejected | unanswered | duplicate | filtered | missed | preEmpted
  | noChannel | radioFault
  deriving DecidableEq, Repr

/-- A log entry (R23). -/
structure LogEntry where
  number   : Half
  kind     : LogKind
  peer     : Nat
  channel  : Nat
  began    : Time
  begun    : Bool
  ended    : Bool
  endTime  : Option Time
  outcome  : Option LogOutcome
  msg      : Option Nat
  errFig   : Option Nat
  deriving DecidableEq, Repr

/-! ### Stations, channels, time and position (R27 to R52) -/

/-- The configured fields of a station entry, saved in the image (R27). -/
structure StationCfg where
  number    : Nat
  name      : List Byte
  traffic   : Bool
  broadcast : Bool
  authority : Bool
  channels  : List Nat
  attempts  : Nat
  deriving DecidableEq, Repr

/-- A loaded station entry: its configured fields and its working memory (R27), with the link engine's no-channel mark
(R75). `nextCallArmed` says that the expiry of the next-call time has not been taken (R42). -/
structure Station where
  cfg           : StationCfg
  shoreHold     : Bool
  consoleHold   : Bool
  k             : Nat
  nextCall      : Option Time
  nextCallArmed : Bool
  noChannel     : Bool
  deriving DecidableEq, Repr

inductive Use
  | traffic | broadcast | distress
  deriving DecidableEq, Repr

/-- The configured fields of a channel entry (R32). -/
structure ChannelCfg where
  tx        : Nat
  rx        : Nat
  use       : Use
  startHour : Nat
  endHour   : Nat
  disabled  : Bool
  deriving DecidableEq, Repr

/-- A loaded channel entry (R32). -/
structure Channel where
  cfg      : ChannelCfg
  q        : Nat
  lastFail : Option Time
  deriving DecidableEq, Repr

inductive ClockSource
  | unset | console | coast
  deriving DecidableEq, Repr

inductive FixSource
  | nav | console
  deriving DecidableEq, Repr

/-- The position fix (R47); `ageArmed` says that its staleness has not yet been taken (R49). -/
structure Fix where
  lat      : Int
  lon      : Int
  time     : Time
  source   : FixSource
  ageArmed : Bool
  deriving DecidableEq, Repr

/-- A loaded area table entry (R50). -/
structure Area where
  name  : List Byte
  south : Int
  north : Int
  west  : Int
  east  : Int
  deriving DecidableEq, Repr

/-! ### Bursts that the part sends (R54 to R68) -/

inductive Purpose
  | traffic | report | pollAnswer
  deriving DecidableEq, Repr

inductive RejectReason
  | busy | silence | unknown
  deriving DecidableEq, Repr

inductive ClearReason
  | done | hold | silence | error
  deriving DecidableEq, Repr

inductive FrameKind
  | text | textEnd | textAbort | directive | answer | empty
  deriving DecidableEq, Repr

/-- A volley frame that the part sends: its payload up to the used length; the padding is zero (R60). -/
structure TxFrame where
  seq     : BitVec 4
  kind    : FrameKind
  payload : List Byte
  deriving DecidableEq, Repr

/-- A tally that the part sends (R63). -/
structure TxTally where
  marks         : List Bool
  next          : BitVec 4
  turnGrant     : Bool
  turnRequest   : Bool
  refused       : Bool
  answerWaiting : Bool
  storeFull     : Bool
  deriving DecidableEq, Repr

/-- Natures of an alert (R69). -/
inductive Nature
  | fire | flooding | collision | grounding | listing | sinking | adrift | abandoning | undesignated | cancel
  deriving DecidableEq, Repr

/-- An ALERT that the part sends (R68). -/
structure TxAlert where
  ship    : Nat
  nature  : Nature
  lat     : Int
  lon     : Int
  fixTime : Time
  stale   : Bool
  persons : Nat
  serial  : BitVec 8
  deriving DecidableEq, Repr

/-- The bursts that the part sends (R54). -/
inductive Burst
  | call (station ship : Nat) (purpose : Purpose) (waiting : Nat)
  | accept (station ship : Nat)
  | reject (station ship : Nat) (reason : RejectReason)
  | volley (counter : BitVec 8) (payLen : Nat) (isOver answerFirst : Bool) (frames : List TxFrame)
  | tally (t : TxTally)
  | clear (reason : ClearReason)
  | alert (a : TxAlert)
  deriving DecidableEq, Repr

/-! ### Directives (R99 to R104) -/

inductive Acceptance
  | accept | refuse | ignore
  deriving DecidableEq, Repr

inductive Addressing
  | individual | collective
  deriving DecidableEq, Repr

inductive Verdict
  | accepted | refused | ignored
  deriving DecidableEq, Repr

inductive OwnState
  | quiet | pending | alerting | acknowledged | cancelling
  deriving DecidableEq, Repr

/-- The contents of an answer record (R105, R106). -/
inductive AnswerRecord
  | status (ship : Nat) (composed : Time) (lat lon : Int) (fixTime : Time) (stale : Bool) (source : ClockSource)
      (freePages queued : Nat) (own : OwnState) (near reached : Nat)
  | identity (ship : Nat) (name callSign : List Byte)
  deriving DecidableEq, Repr

/-! ### Catch (R138 to R146) -/

inductive Form
  | whl | gut | ghe | fil | blk | mea | oil | roe
  deriving DecidableEq, Repr

inductive QuotaState
  | none | near | reached
  deriving DecidableEq, Repr

/-- The configured fields of a species entry: its code and its quota (R138). -/
structure SpeciesCfg where
  code  : List Byte
  quota : Nat
  deriving DecidableEq, Repr

/-- A loaded species entry with its quota state and raised flags (R138, R146). -/
structure Species where
  cfg     : SpeciesCfg
  state   : QuotaState
  nearRaised    : Bool
  reachedRaised : Bool
  deriving DecidableEq, Repr

/-- A factor entry (R140). -/
structure Factor where
  code   : List Byte
  form   : Form
  factor : Nat
  deriving DecidableEq, Repr

/-- A tally row (R141). -/
structure Row where
  code        : List Byte
  area        : Nat
  day         : Nat
  trip        : Nat
  unconverted : Bool
  deriving DecidableEq, Repr

/-- The triggers of a composition (R149). -/
inductive Trigger
  | daily | poll | now | retry
  deriving DecidableEq, Repr

/-- The course that a trigger takes (R149, R150, R153, R157): no authority station; reports pending, each re-queued (no
state) or left in its state; a report composed; or a composition deferred. -/
inductive Course
  | noAuthority
  | pendingReports (l : List (Nat × Option MsgState))
  | composed (msg : Nat) (span : Span)
  | deferred
  deriving DecidableEq, Repr

/-! ### Grants and answers (R201, R202) -/

inductive Grant
  | readTraffic | readBulletin | alarmAck | readReport | submitTraffic | postCatch | reportControl | distressEnd
  | position | clock | catchTables | linkControl | stationEdit | acceptanceEdit | settings | distressStart
  deriving DecidableEq, Repr

inductive Code
  | ok | partly | refusedGrant | badArgument | notFound | notOwner | wrongState | storeFull | tableFull | inUse
  | reportPending | distressActive | empty | starting | unknownKind
  deriving DecidableEq, Repr

/-- The request kinds, in the order of the index of section 10.6 (11.3). -/
inductive ReqKind
  | create | append | submit | withdraw | delete | list | read | keepSet | keepClear | readLog
  | stationSet | stationClear | stationGet | channelGet | areaGet | fixStatus | holdStation | releaseStation
  | channelSet | channelClear | channelDisable | channelEnable | setTime | position | areaSet | areaClear
  | callNow | watchStation | acceptSet | acceptGet | scheduleSet | scheduleClear | scheduleGet | areaWatch
  | bulletinRegister | speciesSet | speciesClear | factorSet | factorClear | speciesGet | factorGet | postCatch
  | reportTimeSet | reportNow | tripStart | tally | distress | distressCancel | distressClose | alarmAck
  | distressList | radioRestore | radioStatus | grantSet | distressLevelSet | shipSet | routeSet | poll | status
  | saveSettings | restart
  | other (code : Nat)
  deriving DecidableEq, Repr

/-- What a PARTIAL answer names (R28, R33, R50, R73, R103, R118, R164, R180, R204, R205). -/
inductive Change
  | precedenceClamped | tooLong | withdrawalPending | nameCut | attemptsClamped (taken : Nat) | authorityCleared (entry : Nat)
  | startHourClamped | endHourClamped | navigationActive | noWatchChannel | cellKept (code : Nat)
  | durationClamped (taken : Nat) | personsClamped | serialClamped (taken : Nat) | levelClamped | callSignCut
  | nameNormalised
  deriving DecidableEq, Repr

/-- The summary of a record in a LIST answer (R20). -/
structure Summary where
  number    : Nat
  dir       : Dir
  prec      : Prec
  state     : MsgState
  orig      : Originator
  peer      : Nat
  peerRef   : Option Nat
  created   : Time
  textLen   : Nat
  keep      : Bool
  withdrawPending : Bool
  identity  : Option BulletinId
  errFig    : Option Nat
  readHere  : Bool
  deriving DecidableEq, Repr

/-- A bulletin register entry (R133). -/
structure RegEntry where
  identity : BulletinId
  received : Time
  errFig   : Nat
  msg      : Option Nat
  deriving DecidableEq, Repr

inductive ListState
  | new | seen | shoreAcked | cancelled
  deriving DecidableEq, Repr

/-- A distress list entry (R175). -/
structure DistressEntry where
  ship    : Nat
  nature  : Nature
  lat     : Int
  lon     : Int
  fixTime : Time
  stale   : Bool
  persons : Nat
  channel : Nat
  first   : Time
  last    : Time
  count   : Nat
  serial  : Nat
  state   : ListState
  deriving DecidableEq, Repr

inductive WinState
  | waiting | tuning | receiving
  deriving DecidableEq, Repr

inductive DwellState
  | tuning | dwelling | idleDwell | stopped
  deriving DecidableEq, Repr

inductive Radio
  | main | watch
  deriving DecidableEq, Repr

/-- Claims on the main transceiver, each with its claimant and class (9.3). -/
inductive Claim
  | distress
  | must (entry : Nat)
  | session
  | call
  | optional (entry : Nat)
  | watch
  deriving DecidableEq, Repr

inductive SaveState
  | idle | waiting | writing
  deriving DecidableEq, Repr

inductive SaveResult
  | none | done | failed
  deriving DecidableEq, Repr

/-- The own alert record as DISTRESS-LIST and OWN-ALERT give it (R162). -/
structure OwnRecord where
  state      : OwnState
  nature     : Nature
  persons    : Nat
  serial     : BitVec 8
  started    : Option Time
  rotPos     : Nat
  nextCycle  : Option Time
  ackStation : Option Nat
  deriving DecidableEq, Repr

/-- What an answer carries besides its code. -/
inductive Body
  | none
  | changes (l : List Change)
  | created (msg : Nat) (l : List Change)
  | appended (accepted replaced : Nat) (l : List Change)
  | listed (l : List Summary) (more : Bool)
  | bytes (l : List Byte) (textLen : Nat)
  | logEntries (l : List LogEntry) (skipped : Option Nat)
  | station (s : Station) (channels : List (Nat × Nat × Nat))
  | channel (c : Channel) (score : Nat) (failedLately : Bool)
  | delta (d : Int)
  | area (a : Area)
  | fixStatus (now : Time) (source : ClockSource) (fix : Option (Fix × Nat)) (stale : Bool) (areas : Option (List Nat))
      (primary : Nat) (watched : List Nat)
  | callNow (due noTraffic engaged : Bool)
  | watchChannel (any : Bool) (l : List Change)
  | cells (individual collective : List Acceptance)
  | schedule (station channel start duration : Nat) (must enabled : Bool) (lastTaken : Option Int) (window : Option WinState)
  | areas (l : List Nat)
  | register (l : List RegEntry) (held : Nat)
  | species (code : List Byte) (quota : Nat) (state : QuotaState) (sum : Nat)
  | factors (l : List Factor) (held : Nat)
  | posted (haul factor live area day trip sum : Nat) (state : QuotaState) (unconverted saturated clamped : Bool)
  | composed (msg : Nat) (span : Span)
  | pendingReports (l : List (Nat × Option MsgState))
  | noAuthority
  | deferredSince (spanStart : Option Nat)
  | tally (rows : List Row) (held : Nat) (spanStart : Option Nat) (reportTime : Nat) (deferred : Bool)
      (lastConfirmed : Option Span) (pendingReports : List Nat)
  | own (state : OwnState) (serial : BitVec 8) (l : List Change)
  | alarm (applied seen : Nat) (active : Bool) (l : List Change)
  | distressList (own : OwnRecord) (active : Bool) (highest new : Nat) (entries : List DistressEntry)
  | restored (main watch : Bool)
  | radios (mainIn : Bool) (mainFaults : Nat) (mainTuned mainFlight : Option Nat) (keyed : Bool)
      (watchIn : Bool) (watchFaults : Nat) (dwell : DwellState) (pos : Nat) (watchTuned : Option Nat)
      (holder : Option Claim) (yieldAsked : Bool) (waiting : List Claim)
  | grants (mask map : Half)
  | flags (flags : Half) (overrun : Bool)
  | status (level : BitVec 2) (holds map : Half) (frameError : Bool) (freePages freeRecords : Nat) (own : OwnState)
      (mainIn watchIn : Bool) (source : ClockSource) (silence : Option (Nat × Time)) (save : SaveState)
      (lastSave : SaveResult) (defaults : Bool) (ship : Nat) (identityDefaulted : Bool)
  | saving (waits : Bool)
  deriving DecidableEq, Repr

structure Answer where
  code : Code
  body : Body
  deriving DecidableEq, Repr

/-! ### Notices (10.3) -/

inductive OwnCause
  | initiated | updated | acknowledged | noChannel | cancelling | cancelled | closed
  deriving DecidableEq, Repr

inductive SilenceCause
  | imposed | renewed | expired | ended
  deriving DecidableEq, Repr

inductive RadioCause
  | faults | restored
  deriving DecidableEq, Repr

inductive ImageArea
  | settings | tally
  deriving DecidableEq, Repr

inductive LostCause
  | loadBad | saveFailed
  deriving DecidableEq, Repr

inductive StartCause
  | powerOn | restart
  deriving DecidableEq, Repr

inductive Notice
  | distressReceived (serial : Nat) (entry : Option (Nat × Nature × Int × Int)) (new : Nat)
  | ownAlert (cause : OwnCause) (state : OwnState) (nature : Nature) (persons : Nat) (serial : BitVec 8)
      (started : Option Time) (ackStation : Option Nat) (sent : Option Nat)
  | silence (inForce : Bool) (imposer : Option Nat) (endTime : Option Time) (cause : SilenceCause)
  | radioFault (radio : Radio) (inService : Bool) (cause : RadioCause) (channel : Option Nat)
  | settingsLost (area : ImageArea) (cause : LostCause)
  | started (cause : StartCause) (levels : PerPort (BitVec 2)) (settingsGood tallyGood : Bool)
  | clockStepped (old new : Time) (source : ClockSource)
  | alarmAcked (serial : Nat) (port : Port)
  | newMessage (msg : Nat)
  | delivered (msg : Nat)
  | failed (msg : Nat)
  | reportConfirmed (msg : Nat) (span : Option Span)
  | reportOverdue (msg : Nat) (span : Option Span)
  | reportDeferred (trigger : Trigger) (spanStart : Option Nat)
  | quotaNear (code : List Byte) (sum quota : Nat) (haul : Option Nat)
  | quotaReached (code : List Byte) (sum quota : Nat) (haul : Option Nat)
  | bulletinStored (msg : Nat) (identity : BulletinId) (errFig station : Nat)
  | bulletinMissed (entry station : Nat) (opening : Time) (outcome : LogOutcome)
  | session (station : Nat) (outcome : LogOutcome) (delivered stored : Nat)
  | holdChanged (station : Nat) (shore console : Bool)
  | logAdvanced
  | positionStale (fix : Fix)
  | noAuthority (trigger : Trigger)
  | storeLow
  deriving DecidableEq, Repr

/-- A frame in an output queue: an answer, or a notice (R201). -/
inductive OutFrame
  | answer (tag : Byte) (kind : ReqKind) (a : Answer)
  | notice (n : Notice)
  deriving DecidableEq, Repr

end Sys2Proof.Machine
end

