-- ==== Sys2Proof/Machine/State.lean ====
section
/-! DEFINITION. The state of the SKV-640 as plain data, block by block, and its value after reset. -/

namespace Sys2Proof.Machine

/-- Why the part stops: no rule of the spec stops it, so there is no reason. (No command raises one: safe.) -/
inductive Fault
  deriving DecidableEq, Repr

/-- Why a command has no meaning. -/
inductive Refusal
  /-- Raised by an arm of exec whose command is not modelled; no arm raises it. Safe: the model stops. -/
  | notModelled (mnemonic : String)
  deriving DecidableEq, Repr

/-- Off, loading (R212) or running. -/
inductive Phase
  | off | loading | running
  deriving DecidableEq, Repr

/-- A console port (R199, R201, R202, R206) with its log cursor (R25). -/
structure PortState where
  level      : BitVec 2
  map        : Half
  hunting    : Bool
  freshHunt  : Bool
  frameError : Bool
  outQ       : List OutFrame
  choices    : Half
  flags      : Half
  overrun    : Bool
  cursor     : Half
  deriving DecidableEq, Repr

/-- The message store (R1 to R9). -/
structure Store where
  free     : List Nat
  recs     : Table MsgRec
  next     : Nat
  lowArmed : Bool
  deriving DecidableEq, Repr

/-- The traffic log (R23). -/
structure TrafficLog where
  entries : List LogEntry
  next    : Half
  deriving DecidableEq, Repr

/-- The station directory (R27, R32). -/
structure Directory where
  stations : Table Station
  channels : Table Channel
  deriving DecidableEq, Repr

/-- The time and position unit (R41 to R52). -/
structure TimeUnit where
  now        : Time
  source     : ClockSource
  prng       : BitVec 32
  fix        : Option Fix
  areas      : Table Area
  areaSet    : Option (List Nat)
  watchAreas : List Nat
  deriving DecidableEq, Repr

/-- The states of the link engine (R71). -/
inductive LinkState
  | idle | calling | awaitFirst | sending | receiving | clearing
  deriving DecidableEq, Repr

/-- Where a call round stands (R77, R78): waiting for its claim, tuning, or sending CALLs and listening. -/
inductive RoundPhase
  | claiming | tuning | calling
  deriving DecidableEq, Repr

/-- A call round (R77, R78). `ship` is the ship number that its CALLs carry, from the first one on (R205). -/
structure Round where
  station  : Nat
  left     : Nat
  phase    : RoundPhase
  channel  : Nat
  entry    : Option Half
  calls    : Nat
  listen   : Option Time
  engaged  : Bool
  ship     : Option Nat
  deriving DecidableEq, Repr

/-- A session in waiting (R82); `ending` when a REJECT is on the air after which the engine returns to IDLE. -/
structure Await where
  station : Nat
  channel : Nat
  entry   : Half
  wait    : Option Time
  ending  : Bool
  deriving DecidableEq, Repr

/-- A sent frame in flight (R83): its send count, the record whose TEXT-END it is, the serial whose last ANSWER frame
it is (R104). -/
structure Flight where
  frame   : TxFrame
  sends   : Nat
  ends    : Option Nat
  answers : Option Half
  deriving DecidableEq, Repr

/-- What follows the tally that is on the air (R91, R93). -/
inductive AfterTally
  | listen | takeTurn | clearDone
  deriving DecidableEq, Repr

/-- The session record (R83) with the engine's working state of the session (R84 to R97). A TEXT-ABORT owed (`aborts`) or
built and not yet sent (`abortsSent`) is a message number and whether a withdrawal owes it (R11, R86); `heldTurn` says that
the peer's shore-hold was cleared in the present sending turn (R108); `later` are the records that a hold took back after their
TEXT-END had been built, which wait for a later session (R86). -/
structure Session where
  peer        : Nat
  channel     : Nat
  entry       : Half
  outNext     : BitVec 4
  inNext      : BitVec 4
  counter     : BitVec 8
  kept        : Option (BitVec 8)
  inFlight    : List Flight
  outMsg      : Option (Nat × Nat)
  inMsg       : Option (Nat × Nat)
  payLen      : Option Nat
  missTallies : Nat
  missVolleys : Nat
  overSent    : Bool
  turnYield   : Bool
  heldTurn    : Bool
  lastTally   : Option TxTally
  lastMsg     : Option Nat
  tallyWin    : Option Time
  receiveWin  : Option Time
  clearWait   : Option Time
  aborts      : List (Nat × Bool)
  abortsSent  : List (Nat × Bool)
  later       : List Nat
  answerRest  : List Byte
  answerCopy  : Option Half
  after       : AfterTally
  delivered   : Nat
  stored      : Nat
  deriving DecidableEq, Repr

/-- The link engine (R71, R72). -/
structure LinkEngine where
  state        : LinkState
  watchStation : Option Nat
  watchChannel : Option Nat
  round        : Option Round
  await        : Option Await
  session      : Option Session
  deriving DecidableEq, Repr

/-- Silence in force: who imposed it and when it ends (R113). -/
structure Silence where
  imposer : Nat
  endTime : Time
  deriving DecidableEq, Repr

/-- The last answer (R104). -/
structure LastAnswer where
  station : Nat
  record  : AnswerRecord
  serial  : Half
  owed    : Bool
  deriving DecidableEq, Repr

/-- The directive handler (R99) and the collective directive check's list (R67). -/
structure Handler where
  individual : List Acceptance
  collective : List Acceptance
  silence    : Option Silence
  last       : Option LastAnswer
  serial     : Half
  recent     : List (Nat × Half)
  deriving DecidableEq, Repr

/-- The configured fields of a schedule entry (R117). -/
structure ScheduleCfg where
  station  : Nat
  channel  : Nat
  start    : Nat
  duration : Nat
  must     : Bool
  enabled  : Bool
  deriving DecidableEq, Repr

/-- A loaded schedule entry with its last-taken day (R117, R43). -/
structure Schedule where
  cfg       : ScheduleCfg
  lastTaken : Option Int
  deriving DecidableEq, Repr

/-- A good frame held ahead by the collective reader (R66). -/
structure HeldFrame where
  frame   : Half
  kind    : Nat
  payload : List Byte
  deriving DecidableEq, Repr

/-- A bulletin in progress (R127). -/
structure Bulletin where
  identity : BulletinId
  areas    : List Nat
  text     : List Byte
  frames   : Nat
  errored  : Nat
  entry    : Half
  deriving DecidableEq, Repr

/-- The reception of a window: the collective reader (R66), the counts of R124 and the bulletin in progress (R127). -/
structure Reception where
  next     : Option Half
  held     : List HeldFrame
  settled  : Nat
  errored  : Nat
  bulletin : Option Bulletin
  deriving DecidableEq, Repr

/-- A window record (R120). -/
structure Window where
  entry    : Nat
  station  : Nat
  channel  : Nat
  must     : Bool
  opening  : Time
  endTime  : Time
  state    : WinState
  logEntry : Half
  rx       : Reception
  deriving DecidableEq, Repr

/-- The broadcast receiver (6). -/
structure Broadcast where
  schedule : Table Schedule
  windows  : List Window
  register : List RegEntry
  deriving DecidableEq, Repr

/-- The catch unit (7). -/
structure Catch where
  species       : Table Species
  factors       : List Factor
  rows          : List Row
  spanStart     : Option Nat
  reportTime    : Nat
  reportTaken   : Option Int
  deferral      : Option Time
  overdue       : Table Time
  lastConfirmed : Option Span
  deriving DecidableEq, Repr

/-- The distress unit (R162 to R179). `rotating` to `grantAfter` are what the rotation in progress waits for and what
follows its tune or burst in flight (R168 to R172, log entry 23). -/
structure Distress where
  state        : OwnState
  nature       : Nature
  persons      : Nat
  serial       : BitVec 8
  started      : Option Time
  rotPos       : Nat
  nextCycle    : Option Time
  ackStation   : Option Nat
  lamp         : Bool
  line         : Bool
  holdTimer    : Option Time
  slot         : Option Time
  granted      : Bool
  rotating     : Bool
  awaitTune    : Bool
  onAir        : Bool
  sent         : Nat
  logEntry     : Option Half
  releaseAfter : Bool
  cancelAfter  : Bool
  grantAfter   : Bool
  list         : List DistressEntry
  alarm        : Bool
  highest      : Nat
  alarmLine    : Bool
  deriving DecidableEq, Repr

/-- The airtime arbiter (R191). -/
structure Arbiter where
  holder     : Option Claim
  waiting    : List Claim
  yieldAsked : Bool
  deriving DecidableEq, Repr

/-- A tune in flight (R183); the requester is absent once it no longer holds airtime (R184). -/
structure Tune where
  channel   : Nat
  requester : Option Claim
  tag       : BitVec 8
  timer     : Option Time
  deriving DecidableEq, Repr

/-- A burst on the air: its KEY, with its tag, not yet gone out, key-up time running, or bits going out (R183, R187). -/
inductive AirPhase
  | keying (tag : BitVec 8)
  | keyUp
  | bits
  deriving DecidableEq, Repr

/-- The main transceiver (R183, R187). -/
structure MainRadio where
  tuned     : Option Nat
  flight    : Option Tune
  nextTune  : Option (Nat × Claim)
  keyed     : Bool
  faults    : Nat
  inService : Bool
  onAir     : Option (Burst × AirPhase)
  burstQ    : List Burst
  deriving DecidableEq, Repr

/-- The watch receiver (R189). -/
structure WatchRadio where
  pos       : Nat
  dwell     : DwellState
  tuned     : Option Nat
  flight    : Option Tune
  timer     : Option Time
  faults    : Nat
  inService : Bool
  deriving DecidableEq, Repr

inductive ControlKind
  | tune | key | unkey
  deriving DecidableEq, Repr

/-- A command on the control link (11.4). -/
structure ControlCmd where
  radio : Radio
  tag   : BitVec 8
  kind  : ControlKind
  tx    : Nat
  rx    : Nat
  deriving DecidableEq, Repr

/-- The control link's sending side (R183): the tag counter, and the commands due, the first being sent. -/
structure ControlLink where
  tag  : BitVec 8
  cmds : List ControlCmd
  deriving DecidableEq, Repr

/-- The sync search of a receive path (R55) and the hunt of a fixed-length receiver (R215). -/
inductive RxState
  | searching | reading
  deriving DecidableEq, Repr

/-- The ship identity (R205). -/
structure Identity where
  number   : Nat
  name     : List Byte
  callSign : List Byte
  deriving DecidableEq, Repr

/-- The settings image (R210). -/
structure SettingsImage where
  identity      : Identity
  stations      : Table StationCfg
  channels      : Table ChannelCfg
  schedule      : Table ScheduleCfg
  areas         : Table Area
  species       : Table SpeciesCfg
  factors       : List Factor
  individual    : List Acceptance
  collective    : List Acceptance
  maps          : PerPort Half
  choices       : PerPort Half
  distressLevel : Nat
  watchStation  : Option Nat
  watchAreas    : List Nat
  reportTime    : Nat
  deriving DecidableEq, Repr

/-- The saved quota state of a species, by its code (R160). -/
structure SavedQuota where
  code          : List Byte
  state         : QuotaState
  nearRaised    : Bool
  reachedRaised : Bool
  deriving DecidableEq, Repr

/-- The tally image (R160). -/
structure TallyImage where
  rows      : List Row
  spanStart : Option Nat
  quotas    : List SavedQuota
  deriving DecidableEq, Repr

/-- A write to the serial memory (R160, R211). -/
inductive SerialWrite
  | settings (i : SettingsImage)
  | tally (i : TallyImage)
  deriving DecidableEq, Repr

/-- The settings store and the serial memory (R210, R211). An image is absent when its CRC fails. -/
structure Settings where
  identity      : Identity
  defaulted     : Bool
  distressLevel : Nat
  image         : Option SettingsImage
  tallyImage    : Option TallyImage
  writing       : Option SerialWrite
  queue         : List SerialWrite
  lastSave      : SaveResult
  loadGood      : Bool
  tallyLoadGood : Bool
  deriving DecidableEq, Repr

/-- Why a hold is revoked: the class of the claim that pre-empted, or RADIO-FAULT (R193). -/
inductive RevokeCause
  | preEmpted (cls : Nat)
  | radioFault
  deriving DecidableEq, Repr

/-- The messages that blocks send each other inside one event (R191, R184, R187). -/
inductive Msg
  | granted (c : Claim)
  | refused (c : Claim)
  | revoked (c : Claim) (cause : RevokeCause)
  | yieldAsked
  | higherWaiting
  | backInService
  | tuned (c : Claim) (ready outOfService : Bool)
  | radioOut
  | burstEnded (b : Burst)
  | dueTest
  deriving DecidableEq, Repr

/-- The whole state. `pending` is the queue of commands; `msgs` and `raised` are the working lists of one command and
are empty between commands; everything else is the spec's. -/
structure State where
  pending    : List Instr
  msgs       : List Msg
  raised     : List Notice
  phase      : Phase
  startCause : StartCause
  ports      : PerPort PortState
  store      : Store
  log        : TrafficLog
  dir        : Directory
  time       : TimeUnit
  link       : LinkEngine
  handler    : Handler
  bcast      : Broadcast
  catch_     : Catch
  distress   : Distress
  arb        : Arbiter
  main       : MainRadio
  watch      : WatchRadio
  ctl        : ControlLink
  mainPath   : RxState
  watchPath  : RxState
  controlRx  : RxState
  navRx      : RxState
  settings   : Settings
  deriving DecidableEq, Repr

/-! ### Values after power-on -/

/-- A port after power-on at a strap level, with a bad image (R199, R202, R206, R26). -/
def PortState.initial (level : BitVec 2) : PortState :=
  { level, map := 0, hunting := true, freshHunt := true, frameError := false, outQ := [],
    choices := 0xFFFF, flags := 0, overrun := false, cursor := 0 }

/-- The store after power-on (R26). -/
def Store.initial : Store :=
  { free := List.range Config.pages, recs := [], next := 1, lowArmed := true }

/-- The acceptance defaults of section 5.1, by code 0 to 15 (R103: codes 0 and 13 to 15 are REFUSE). -/
def defaultIndividual : List Acceptance :=
  [.refuse, .accept, .accept, .accept, .accept, .accept, .accept, .accept, .accept, .accept, .accept, .accept, .accept,
   .refuse, .refuse, .refuse]

def defaultCollective : List Acceptance :=
  [.refuse, .refuse, .refuse, .accept, .refuse, .refuse, .refuse, .accept, .accept, .accept, .accept, .refuse, .refuse,
   .refuse, .refuse, .refuse]

/-- The identity when the image fails its check (R205). -/
def Identity.default : Identity := { number := Config.defaultShip, name := [], callSign := [] }

/-- The link engine after power-on, with no watch station (R71, R72). -/
def LinkEngine.initial : LinkEngine :=
  { state := .idle, watchStation := none, watchChannel := none, round := none, await := none, session := none }

/-- The directive handler after power-on, with a bad image (R99). -/
def Handler.initial : Handler :=
  { individual := defaultIndividual, collective := defaultCollective, silence := none, last := none, serial := 0,
    recent := [] }

/-- The catch unit after power-on, with bad images (R161). -/
def Catch.initial : Catch :=
  { species := [], factors := [], rows := [], spanStart := none, reportTime := Config.defaultReportTime,
    reportTaken := none, deferral := none, overdue := [], lastConfirmed := none }

/-- The distress unit after power-on (R162, R175, R179). -/
def Distress.initial : Distress :=
  { state := .quiet, nature := .undesignated, persons := 0, serial := 0, started := none, rotPos := 0,
    nextCycle := none, ackStation := none, lamp := false, line := false, holdTimer := none, slot := none,
    granted := false, rotating := false, awaitTune := false, onAir := false, sent := 0, logEntry := none,
    releaseAfter := false, cancelAfter := false, grantAfter := false, list := [], alarm := false, highest := 0, alarmLine := false }

/-- The main transceiver after power-on (R183). -/
def MainRadio.initial : MainRadio :=
  { tuned := none, flight := none, nextTune := none, keyed := false, faults := 0, inService := true, onAir := none,
    burstQ := [] }

/-- The watch receiver after power-on (R189). -/
def WatchRadio.initial : WatchRadio :=
  { pos := 0, dwell := .stopped, tuned := none, flight := none, timer := none, faults := 0, inService := true }

/-- The clock, fix and areas after power-on, with a bad image (R41, R46, R47, R52). -/
def TimeUnit.initial : TimeUnit :=
  { now := 0, source := .unset, prng := BitVec.ofNat 32 Config.defaultShip, fix := none, areas := [], areaSet := none,
    watchAreas := [] }

/-- The settings store after power-on with bad images (R205, R210, R211). -/
def Settings.initial : Settings :=
  { identity := Identity.default, defaulted := true, distressLevel := 3, image := none, tallyImage := none,
    writing := none, queue := [], lastSave := .none, loadGood := false, tallyLoadGood := false }

/-- The part right after power-on with a blank serial memory, before loading ends (R212; log entries 2 and 3). -/
def State.reset : State :=
  { pending := [], msgs := [], raised := [], phase := .loading, startCause := .powerOn,
    ports := ⟨.initial 0, .initial 0, .initial 0⟩, store := .initial, log := { entries := [], next := 0 },
    dir := { stations := [], channels := [] }, time := .initial, link := .initial, handler := .initial,
    bcast := { schedule := [], windows := [], register := [] }, catch_ := .initial, distress := .initial,
    arb := { holder := none, waiting := [], yieldAsked := false }, main := .initial, watch := .initial,
    ctl := { tag := 0, cmds := [] }, mainPath := .searching, watchPath := .searching, controlRx := .searching,
    navRx := .searching, settings := .initial }

end Sys2Proof.Machine
end

