-- ==== Sys2Proof/Machine/Operands.lean ====
section
/-! DEFINITION. Operand forms: the codes of section 11.1, big-endian fields (R214), the telex set and its normalisation
(R15, R70), names, sets of areas and decimal numbers. -/

namespace Sys2Proof.Machine

/-! ### Codes of section 11.1 -/

def Prec.ofCode : Nat → Option Prec
  | 0 => some .distress
  | 1 => some .urgency
  | 2 => some .safety
  | 3 => some .report
  | 4 => some .routine
  | _ => none

def Prec.code : Prec → Nat
  | .distress => 0
  | .urgency => 1
  | .safety => 2
  | .report => 3
  | .routine => 4

def Cls.ofCode : Nat → Option Cls
  | 0 => some .traffic
  | 1 => some .bulletin
  | 2 => some .report
  | _ => none

def Cls.code : Cls → Nat
  | .traffic => 0
  | .bulletin => 1
  | .report => 2

/-- States in the order in which R6 lists them; code 8 of LIST is ANY (log entry 6). -/
def MsgState.ofCode : Nat → Option MsgState
  | 0 => some .draft
  | 1 => some .queued
  | 2 => some .sending
  | 3 => some .delivered
  | 4 => some .confirmed
  | 5 => some .failed
  | 6 => some .receiving
  | 7 => some .stored
  | _ => none

/-- The state a LIST asks for: outer none for an undefined code, inner none for ANY (R20). -/
def listState (code : Nat) : Option (Option MsgState) :=
  if code = 8 then some none else (MsgState.ofCode code).map some

def Use.ofCode : Nat → Option Use
  | 0 => some .traffic
  | 1 => some .broadcast
  | 2 => some .distress
  | _ => none

def Acceptance.ofCode : Nat → Option Acceptance
  | 0 => some .accept
  | 1 => some .refuse
  | 2 => some .ignore
  | _ => none

def Addressing.ofCode : Nat → Option Addressing
  | 0 => some .individual
  | 1 => some .collective
  | _ => none

/-- MUST 0, OPTIONAL 1 (R117, by their order there). -/
def mustOfCode : Nat → Option Bool
  | 0 => some true
  | 1 => some false
  | _ => none

def Form.ofCode : Nat → Option Form
  | 0 => some .whl
  | 1 => some .gut
  | 2 => some .ghe
  | 3 => some .fil
  | 4 => some .blk
  | 5 => some .mea
  | 6 => some .oil
  | 7 => some .roe
  | _ => none

def Form.code : Form → Nat
  | .whl => 0
  | .gut => 1
  | .ghe => 2
  | .fil => 3
  | .blk => 4
  | .mea => 5
  | .oil => 6
  | .roe => 7

/-- LANDING 0, CORRECTION 1 (R142, by their order there): whether the posting is a LANDING. -/
def landingOfCode : Nat → Option Bool
  | 0 => some true
  | 1 => some false
  | _ => none

def Nature.ofCode : Nat → Option Nature
  | 0 => some .fire
  | 1 => some .flooding
  | 2 => some .collision
  | 3 => some .grounding
  | 4 => some .listing
  | 5 => some .sinking
  | 6 => some .adrift
  | 7 => some .abandoning
  | 8 => some .undesignated
  | 9 => some .cancel
  | _ => none

def Nature.code : Nature → Nat
  | .fire => 0
  | .flooding => 1
  | .collision => 2
  | .grounding => 3
  | .listing => 4
  | .sinking => 5
  | .adrift => 6
  | .abandoning => 7
  | .undesignated => 8
  | .cancel => 9

/-- An undefined CLEAR reason is taken as ERROR (R214). -/
def ClearReason.ofCode : Nat → ClearReason
  | 0 => .done
  | 1 => .hold
  | 2 => .silence
  | _ => .error

def ClearReason.code : ClearReason → Nat
  | .done => 0
  | .hold => 1
  | .silence => 2
  | .error => 3

def FrameKind.ofCode : Nat → Option FrameKind
  | 0 => some .text
  | 1 => some .textEnd
  | 2 => some .textAbort
  | 3 => some .directive
  | 4 => some .answer
  | 5 => some .empty
  | _ => none

def FrameKind.code : FrameKind → Nat
  | .text => 0
  | .textEnd => 1
  | .textAbort => 2
  | .directive => 3
  | .answer => 4
  | .empty => 5

def BulletinKind.ofLetter (b : Byte) : Option BulletinKind :=
  if b = 0x57 then some .weather
  else if b = 0x4E then some .navigation
  else if b = 0x49 then some .ice
  else if b = 0x47 then some .gale
  else none

/-- A console port by its number 1-3 (R203). -/
def Port.ofNumber : Nat → Option Port
  | 1 => some .p1
  | 2 => some .p2
  | 3 => some .p3
  | _ => none

/-! ### Fields of bytes (R214: most significant byte first) -/

/-- An unsigned number from its bytes. -/
def natOfBytes (l : List Byte) : Nat := l.foldl (fun n b => n * 256 + b.toNat) 0

/-- A number as `k` bytes. -/
def bytesOfNat : Nat → Nat → List Byte
  | 0, _ => []
  | k + 1, n => bytesOfNat k (n / 256) ++ [BitVec.ofNat 8 n]

/-- A signed number as four bytes in two's complement. -/
def bytesOfInt (i : Int) : List Byte := bytesOfNat 4 (BitVec.ofInt 32 i).toNat

def bytesOfTime (t : Time) : List Byte := bytesOfNat 4 t.toNat

def byteOfBool (b : Bool) : Byte := if b then 1 else 0

/-- A text padded with 0 to its field's width (R214). -/
def padTo (k : Nat) (l : List Byte) : List Byte := l.take k ++ List.replicate (k - l.length) 0

/-! ### Text -/

def isCapital (b : Byte) : Bool := decide (0x41 ≤ b.toNat) && decide (b.toNat ≤ 0x5A)

def isSmall (b : Byte) : Bool := decide (0x61 ≤ b.toNat) && decide (b.toNat ≤ 0x7A)

def isDigit (b : Byte) : Bool := decide (0x30 ≤ b.toNat) && decide (b.toNat ≤ 0x39)

/-- The telex character set (Conventions, Text; codes of 11.1). -/
def isTelex (b : Byte) : Bool :=
  isCapital b || isDigit b ||
    [0x20, 0x27, 0x28, 0x29, 0x2B, 0x2C, 0x2D, 0x2E, 0x2F, 0x3A, 0x3D, 0x3F, 0x0D, 0x0A].contains b.toNat

/-- The byte `?`. -/
def questionMark : Byte := 0x3F

/-- The byte `*` (R66). -/
def star : Byte := 0x2A

/-- A console byte folded to the telex set (R15). -/
def normByte (b : Byte) : Byte :=
  if isTelex b then b else if isSmall b then b - 0x20 else questionMark

/-- Whether R15 counts the byte as replaced. -/
def replacedByte (b : Byte) : Bool := !(isTelex b) && !(isSmall b)

/-- A received byte outside the telex set becomes `?` (R70). -/
def airByte (b : Byte) : Byte := if isTelex b then b else questionMark

/-- A name given by a console: normalised and cut (R28, R50, R205). -/
def nameOf (most : Nat) (t : List Byte) : List Byte := (t.map normByte).take most

/-- A species code given by a console: three letters, folded to capitals (R139). -/
def codeOf (c : List Byte) : Option (List Byte) :=
  let folded := c.map fun b => if isSmall b then b - 0x20 else b
  if c.length = 3 ∧ folded.all isCapital then some folded else none

/-! ### Sets of areas (R214: bit n − 1 is area n) -/

/-- The areas of a set field, ascending. -/
def areasOfBits (b : BitVec 32) : List Nat :=
  ((List.range 32).filter fun i => b.getLsbD i).map (· + 1)

/-! ### Decimal numbers of a report (R151) -/

/-- `k` decimal digits with leading zeros. -/
def decimal : Nat → Nat → List Byte
  | 0, _ => []
  | k + 1, n => decimal k (n / 10) ++ [BitVec.ofNat 8 (0x30 + n % 10)]

/-- The codes of the characters of a word in the telex set. -/
def ascii (t : String) : List Byte := t.toList.map fun c => BitVec.ofNat 8 c.toNat

/-- Species codes in alphabetical order. -/
def codeBefore : List Byte → List Byte → Bool
  | _, [] => false
  | [], _ :: _ => true
  | a :: l, b :: m => decide (a.toNat < b.toNat) || (a == b && codeBefore l m)

end Sys2Proof.Machine
end

