-- ==== Sys2Proof/Machine/Flags.lean ====
section
/-! DEFINITION. The marks of the console ports: grants (R202), notice kinds, routing, notice flags and the overrun mark
(R201, R206). -/

namespace Sys2Proof.Machine

def PerPort.get {α : Type} (x : PerPort α) : Port → α
  | .p1 => x.p1
  | .p2 => x.p2
  | .p3 => x.p3

def PerPort.set {α : Type} (x : PerPort α) (p : Port) (v : α) : PerPort α :=
  match p with
  | .p1 => { x with p1 := v }
  | .p2 => { x with p2 := v }
  | .p3 => { x with p3 := v }

def PerPort.map {α β : Type} (f : α → β) (x : PerPort α) : PerPort β := ⟨f x.p1, f x.p2, f x.p3⟩

def PerPort.all {α : Type} (f : Port → α → Bool) (x : PerPort α) : Bool := f .p1 x.p1 && f .p2 x.p2 && f .p3 x.p3

/-- The map bit of a grant (R202). -/
def Grant.bit : Grant → Nat
  | .readTraffic => 0
  | .readBulletin => 1
  | .alarmAck => 2
  | .readReport => 3
  | .submitTraffic => 4
  | .postCatch => 5
  | .reportControl => 6
  | .distressEnd => 7
  | .position => 8
  | .clock => 9
  | .catchTables => 10
  | .linkControl => 11
  | .stationEdit => 12
  | .acceptanceEdit => 13
  | .settings => 14
  | .distressStart => 15

/-- The floor of a grant, given the distress level (R202). -/
def Grant.floor (distressLevel : Nat) : Grant → Nat
  | .readTraffic | .readBulletin | .alarmAck => 3
  | .readReport | .submitTraffic | .postCatch => 2
  | .reportControl | .distressEnd | .position | .clock | .catchTables | .linkControl => 1
  | .stationEdit | .acceptanceEdit | .settings => 0
  | .distressStart => distressLevel

/-- The 16 grants in the order of their bits. -/
def Grant.every : List Grant :=
  [.readTraffic, .readBulletin, .alarmAck, .readReport, .submitTraffic, .postCatch, .reportControl, .distressEnd,
   .position, .clock, .catchTables, .linkControl, .stationEdit, .acceptanceEdit, .settings, .distressStart]

/-- A port holds a grant by its level or by its map (R202). -/
def PortState.holds (distressLevel : Nat) (p : PortState) (g : Grant) : Bool :=
  decide (p.level.toNat ≤ g.floor distressLevel) || p.map.getLsbD g.bit

/-- The grants a port holds, as a set (R202, R203, R209). -/
def PortState.held (distressLevel : Nat) (p : PortState) : Half :=
  Grant.every.foldl (fun m g => if p.holds distressLevel g then m ||| (1#16 <<< g.bit) else m) 0

/-- Whether a port holds a grant now. -/
def State.holds (s : State) (p : Port) (g : Grant) : Bool := (s.ports.get p).holds s.settings.distressLevel g

/-- The read grant of a class (1.2). -/
def Cls.readGrant : Cls → Grant
  | .traffic => .readTraffic
  | .bulletin => .readBulletin
  | .report => .readReport

/-- The kind number of a notice (10.3). -/
def Notice.kind : Notice → Nat
  | .distressReceived .. => 0
  | .ownAlert .. => 1
  | .silence .. => 2
  | .radioFault .. => 3
  | .settingsLost .. => 4
  | .started .. => 5
  | .clockStepped .. => 6
  | .alarmAcked .. => 7
  | .newMessage .. => 8
  | .delivered .. => 9
  | .failed .. => 10
  | .reportConfirmed .. => 11
  | .reportOverdue .. => 12
  | .reportDeferred .. => 13
  | .quotaNear .. => 14
  | .quotaReached .. => 15
  | .bulletinStored .. => 16
  | .bulletinMissed .. => 17
  | .session .. => 18
  | .holdChanged .. => 19
  | .logAdvanced => 20
  | .positionStale .. => 21
  | .noAuthority .. => 22
  | .storeLow => 23

/-- A frame joins the end of the port's output queue (R201). -/
def PortState.enqueue (f : OutFrame) (p : PortState) : PortState := { p with outQ := p.outQ ++ [f] }

/-- A port takes a notice: kinds 0 to 7 as a frame; kinds 8 to 23 by its choice, as a frame while fewer than 48 frames
wait, else as its flag with the overrun mark (R201, R206). -/
def PortState.take (n : Notice) (p : PortState) : PortState :=
  if n.kind < 8 then p.enqueue (.notice n)
  else
    let bit : Half := 1#16 <<< (n.kind - 8)
    if p.choices.getLsbD (n.kind - 8) then
      if p.outQ.length < Config.queueNotices then p.enqueue (.notice n)
      else { p with flags := p.flags ||| bit, overrun := true }
    else { p with flags := p.flags ||| bit }

/-- A port takes notices in the order in which they were raised (R201). -/
def PortState.takeAll (l : List Notice) (p : PortState) : PortState := l.foldl (fun q n => q.take n) p

end Sys2Proof.Machine
end

