-- ==== Sys2Proof/Machine/Ops.lean ====
section
/-! DEFINITION. The named operations that every block uses: tables, ship time and timers, raising notices, the traffic log,
and how a request is taken and answered. -/

namespace Sys2Proof.Machine

/-! ### Tables -/

/-- The entry with a number, if it is loaded. -/
def Table.find {α : Type} (t : Table α) (n : Nat) : Option α :=
  match t with
  | [] => none
  | (m, v) :: rest => if m = n then some v else Table.find rest n

/-- Write an entry, keeping the rising order of numbers. -/
def Table.put {α : Type} (t : Table α) (n : Nat) (v : α) : Table α :=
  match t with
  | [] => [(n, v)]
  | (m, w) :: rest =>
    if n < m then (n, v) :: (m, w) :: rest
    else if n = m then (n, v) :: rest
    else (m, w) :: Table.put rest n v

/-- Empty an entry. -/
def Table.del {α : Type} (t : Table α) (n : Nat) : Table α := t.filter fun e => e.1 ≠ n

/-- Change a loaded entry; an empty one stays empty. -/
def Table.upd {α : Type} (t : Table α) (n : Nat) (f : α → α) : Table α :=
  t.map fun e => if e.1 = n then (e.1, f e.2) else e

/-- Change every loaded entry, with its number. -/
def Table.mapVals {α β : Type} (f : α → β) (t : Table α) : Table β := t.map fun e => (e.1, f e.2)

/-- The canonical form of a table: numbers strictly rising. -/
def Table.wf {α : Type} (t : Table α) : Bool :=
  match t with
  | [] => true
  | (n, _) :: rest => rest.all (fun e => decide (n < e.1)) && Table.wf rest

/-! ### Ship time (R41, R42) -/

/-- A target has passed when (now − T) mod 2³² is less than 2³¹ (R41). -/
def passed (now target : Time) : Bool := decide ((now - target).toNat < 2 ^ 31)

/-- The age (now − t) mod 2³² of a past event (R10, R175). -/
def age (now t : Time) : Nat := (now - t).toNat

/-- A target a stated length ahead (R42). -/
def State.after (s : State) (seconds : Nat) : Time := s.time.now + BitVec.ofNat 32 seconds

/-- Seconds pass until a target is reached; none pass when it has passed, and a quarter hour that they cross makes no choice
of the call-watch channel (R72, log entry 1). -/
def State.waitUntil (s : State) (target : Time) : State :=
  if passed s.time.now target then s else { s with time.now := target }

/-- The expiry of a timer is taken once, at or after its target; an expiry of a disarmed timer does nothing (R42). -/
def State.expire (s : State) (timer : Option Time) (take : State → State) : State :=
  match timer with
  | none => s
  | some target => take (s.waitUntil target)

/-- The day number and the time of day (R41). -/
def dayOf (t : Time) : Nat := t.toNat / 86400
def secondOfDay (t : Time) : Nat := t.toNat % 86400

/-- The latest occurrence d* of a minute of day: the current day, or the day before (R43). -/
def latestDay (now : Time) (minute : Nat) : Int :=
  if minute * 60 ≤ secondOfDay now then (dayOf now : Int) else (dayOf now : Int) - 1

/-- A calendar entry is due (R43). -/
def calendarDue (source : ClockSource) (now : Time) (minute : Nat) (lastTaken : Option Int) : Bool :=
  source != .unset &&
    match lastTaken with
    | none => true
    | some d => decide (d < latestDay now minute)

/-- The next second at which a calendar entry that is not due falls due, if the clock reaches it before it wraps
(R43, log entry 1). -/
def calendarNext (now : Time) (minute : Nat) (lastTaken : Option Int) : Option Time :=
  let last : Int := match lastTaken with
    | none => latestDay now minute
    | some d => max d (latestDay now minute)
  let at_ := (last + 1) * 86400 + minute * 60
  if 0 ≤ at_ ∧ at_ < 2 ^ 32 then some (BitVec.ofInt 32 at_) else none

/-- A draw rand(k) (R46). -/
def State.draw (s : State) (k : Nat) : Nat × State :=
  let x := 1664525#32 * s.time.prng + 1013904223#32
  ((x.toNat / 65536) % k, { s with time.prng := x })

/-! ### Notices and messages between blocks -/

/-- Raise a notice: it joins the queues after the answer of the same command (R201, R206). -/
def State.raise (s : State) (n : Notice) : State := { s with raised := s.raised ++ [n] }

/-- A message to a block, taken in the same event (R191). -/
def State.post (s : State) (m : Msg) : State := { s with msgs := s.msgs ++ [m] }

/-! ### The traffic log (R23, R24) -/

/-- Write an entry at the newest end, removing the oldest of 64 first, and raise LOG-ADVANCED (R23). -/
def State.logWrite (s : State) (kind : LogKind) (peer channel : Nat) : State :=
  let e : LogEntry :=
    { number := s.log.next, kind, peer, channel, began := s.time.now, begun := true, ended := false, endTime := none,
      outcome := none, msg := none, errFig := none }
  let held := if Config.ringEntries ≤ s.log.entries.length then s.log.entries.tail else s.log.entries
  { s with log := { entries := held ++ [e], next := s.log.next + 1 } }.raise .logAdvanced

/-- An entry as completed (R24). -/
def LogEntry.complete (now : Time) (outcome : LogOutcome) (msg errFig : Option Nat) (e : LogEntry) : LogEntry :=
  { e with ended := true, endTime := some now, outcome := some outcome, msg := msg, errFig := errFig }

/-- Complete an entry; one that has left the ring, or has ended, is left alone (R24). -/
def State.logComplete (s : State) (number : Half) (outcome : LogOutcome) (msg errFig : Option Nat := none) : State :=
  { s with log.entries := s.log.entries.map fun e =>
      if e.number = number && !e.ended then e.complete s.time.now outcome msg errFig else e }

/-- An activity that begins and ends in one event (R23). -/
def State.logMoment (s : State) (kind : LogKind) (peer channel : Nat) (outcome : LogOutcome)
    (msg errFig : Option Nat := none) : State :=
  (s.logWrite kind peer channel).logComplete s.log.next outcome msg errFig

/-! ### Requests (R199 to R201) -/

/-- The number of a request kind (11.3). -/
def ReqKind.code : ReqKind → Nat
  | .create => 1
  | .append => 2
  | .submit => 3
  | .withdraw => 4
  | .delete => 5
  | .list => 6
  | .read => 7
  | .keepSet => 8
  | .keepClear => 9
  | .readLog => 10
  | .stationSet => 11
  | .stationClear => 12
  | .stationGet => 13
  | .channelGet => 14
  | .areaGet => 15
  | .fixStatus => 16
  | .holdStation => 17
  | .releaseStation => 18
  | .channelSet => 19
  | .channelClear => 20
  | .channelDisable => 21
  | .channelEnable => 22
  | .setTime => 23
  | .position => 24
  | .areaSet => 25
  | .areaClear => 26
  | .callNow => 27
  | .watchStation => 28
  | .acceptSet => 29
  | .acceptGet => 30
  | .scheduleSet => 31
  | .scheduleClear => 32
  | .scheduleGet => 33
  | .areaWatch => 34
  | .bulletinRegister => 35
  | .speciesSet => 36
  | .speciesClear => 37
  | .factorSet => 38
  | .factorClear => 39
  | .speciesGet => 40
  | .factorGet => 41
  | .postCatch => 42
  | .reportTimeSet => 43
  | .reportNow => 44
  | .tripStart => 45
  | .tally => 46
  | .distress => 47
  | .distressCancel => 48
  | .distressClose => 49
  | .alarmAck => 50
  | .distressList => 51
  | .radioRestore => 52
  | .radioStatus => 53
  | .grantSet => 54
  | .distressLevelSet => 55
  | .shipSet => 56
  | .routeSet => 57
  | .poll => 58
  | .status => 59
  | .saveSettings => 60
  | .restart => 61
  | .other code => code

/-- The grant that the index of 10.6 names for a request kind (R200 check 4). -/
def ReqKind.grant : ReqKind → Option Grant
  | .create => some .submitTraffic
  | .readLog => some .readTraffic
  | .stationSet | .stationClear | .channelSet | .channelClear | .areaSet | .areaClear | .scheduleSet
  | .scheduleClear => some .stationEdit
  | .holdStation | .releaseStation | .channelDisable | .channelEnable | .callNow | .watchStation | .areaWatch
  | .radioRestore => some .linkControl
  | .setTime => some .clock
  | .position => some .position
  | .acceptSet => some .acceptanceEdit
  | .bulletinRegister => some .readBulletin
  | .speciesSet | .speciesClear | .factorSet | .factorClear => some .catchTables
  | .postCatch => some .postCatch
  | .reportTimeSet | .reportNow | .tripStart => some .reportControl
  | .tally => some .readReport
  | .distress => some .distressStart
  | .distressCancel | .distressClose => some .distressEnd
  | .alarmAck => some .alarmAck
  | .grantSet | .distressLevelSet | .shipSet | .saveSettings | .restart => some .settings
  | .append | .submit | .withdraw | .delete | .list | .read | .keepSet | .keepClear | .stationGet | .channelGet
  | .areaGet | .fixStatus | .acceptGet | .scheduleGet | .speciesGet | .factorGet | .distressList | .radioStatus
  | .routeSet | .poll | .status | .other _ => none

/-- The requests that a running settings save refuses (the Image column of 10.6, R211). -/
def ReqKind.image : ReqKind → Bool
  | .stationSet | .stationClear | .channelSet | .channelClear | .channelDisable | .channelEnable | .areaSet
  | .areaClear | .watchStation | .acceptSet | .scheduleSet | .scheduleClear | .areaWatch | .speciesSet
  | .speciesClear | .factorSet | .factorClear | .reportTimeSet | .grantSet | .distressLevelSet | .shipSet
  | .routeSet => true
  | _ => false

/-- Where the settings save stands (R211): WRITING when its write is in flight, WAITING when it waits behind one. -/
def Settings.saveState (c : Settings) : SaveState :=
  match c.writing with
  | some (.settings _) => .writing
  | _ => if c.queue.any (fun w => match w with | .settings _ => true | .tally _ => false) then .waiting else .idle

/-- A settings save is running (R211). -/
def State.saving (s : State) : Bool := s.settings.saveState != .idle

/-- The checks that apply to every request, in the order of R200; the settings-save check, which every rule of a marked
request makes first, stands behind them (10.6). The first that fails gives the answer. -/
def State.refusal (s : State) (k : ReqKind) (r : Req) : Option Code :=
  if s.phase = .loading then some .starting
  else match k with
    | .other _ => some .unknownKind
    | _ =>
      if !r.fits then some .badArgument
      else if !(k.grant.all (s.holds r.port)) then some .refusedGrant
      else if Config.queueFull ≤ (s.ports.get r.port).outQ.length then some .inUse
      else if k.image && s.saving then some .inUse
      else none

/-- The port's frame receiver has taken a good frame and hunts again (R199). -/
def PortState.frameEnds (p : PortState) : PortState := { p with hunting := true, freshHunt := true }

/-- The answer joins the queue of the requesting port (R201). -/
def State.reply (s : State) (k : ReqKind) (r : Req) (a : Answer) : State :=
  { s with ports := s.ports.set r.port ((s.ports.get r.port).enqueue (.answer r.tag k a)) }

/-- The main path is held in SEARCHING (R188). -/
def State.mainHeld (s : State) : Bool := s.main.keyed || s.main.flight.isSome || s.main.tuned.isNone

/-- The watch path is held in SEARCHING (R188). -/
def State.watchHeld (s : State) : Bool :=
  s.watch.flight.isSome || !s.watch.inService || s.watch.dwell != .dwelling

/-- The working lists of a command start empty. -/
def State.scrub (s : State) : State := { s with msgs := [], raised := [] }

/-- The end of a command: the notices raised are delivered in order (R201, R206), a path that is held stands in
SEARCHING (R188), and the queue of commands is as it was. -/
def State.seal (s : State) (pending : List Instr) : State :=
  { s with
    ports := s.ports.map (·.takeAll s.raised)
    mainPath := if s.mainHeld then .searching else s.mainPath
    watchPath := if s.watchHeld then .searching else s.watchPath
    msgs := [], raised := [], pending }

abbrev Result := Host.Outcome State Fault Refusal

/-- An event of the part that gives no message to another block. A part that is off takes no event. -/
def localEvent (s : State) (f : State → State) : Result :=
  if s.phase = .off then .next s else .next ((f s.scrub).seal s.pending)

/-- A request is taken at its last byte, checked (R200), decided by its own rule and answered in the same event; its
answer joins the queue before the notices of its effects (R201). `work` is what the blocks do with the messages that
the effects bring about. -/
def requestWith (work : State → State) (k : ReqKind) (r : Req) (s : State) (f : State → State × Answer) : Result :=
  if s.phase = .off then .next s
  else
    let s1 := { s.scrub with ports := s.ports.set r.port (s.ports.get r.port).frameEnds }
    match s1.refusal k r with
    | some code => .next ((s1.reply k r ⟨code, .none⟩).seal s.pending)
    | none =>
      let (s2, a) := f s1
      .next (((work s2).reply k r a).seal s.pending)

/-- A request whose effects give no message to another block. -/
def localRequest (k : ReqKind) (r : Req) (s : State) (f : State → State × Answer) : Result :=
  requestWith id k r s f

/-- A request that reads state and changes none but the receiver's. -/
def query (k : ReqKind) (r : Req) (s : State) (f : State → Answer) : Result :=
  localRequest k r s fun t => (t, f t)

/-- A plain answer, and an answer that is PARTIAL when it names a change (Conventions; R201). -/
def plain (c : Code) : Answer := ⟨c, .none⟩
def okWith (l : List Change) : Answer := if l.isEmpty then ⟨.ok, .none⟩ else ⟨.partly, .changes l⟩

end Sys2Proof.Machine
end

