-- ==== Sys2Proof/Machine/Store.lean ====
section
/-! DEFINITION. The message store: pages, records, reclaim, message states and the sending order (R1 to R12). -/

namespace Sys2Proof.Machine

/-- The count of free pages and of free records (R1, R3). -/
def State.freePages (s : State) : Nat := s.store.free.length
def State.freeRecords (s : State) : Nat := Config.records - s.store.recs.length

/-- The record that holds a message number. -/
def State.record (s : State) (n : Nat) : Option MsgRec := s.store.recs.find n

/-- Change a record. -/
def State.updRecord (s : State) (n : Nat) (f : MsgRec → MsgRec) : State :=
  { s with store.recs := s.store.recs.upd n f }

/-- The STORE-LOW test, made whenever the count of free pages has changed (R9). -/
def State.storeLowTest (s : State) : State :=
  if s.store.lowArmed then
    if s.freePages < Config.lowBelow then { s with store.lowArmed := false }.raise .storeLow else s
  else if Config.lowArmAt ≤ s.freePages then { s with store.lowArmed := true }
  else s

/-- A register entry forgets a freed record (R7). -/
def RegEntry.forget (n : Nat) (e : RegEntry) : RegEntry := if e.msg = some n then { e with msg := none } else e

/-- Free a record: it leaves the table, its pages join the end of the free list, the register entry that references it
loses its number, its overdue timer is gone, and the STORE-LOW test is made (R7). -/
def State.freeRecord (s : State) (n : Nat) : State :=
  match s.record n with
  | none => s
  | some r =>
    { s with
      store.recs := s.store.recs.del n
      store.free := s.store.free ++ r.pages
      bcast.register := s.bcast.register.map (RegEntry.forget n)
      catch_.overdue := s.catch_.overdue.del n }.storeLowTest

/-- Free several records in turn. -/
def State.freeRecords' (s : State) (l : List Nat) : State := l.foldl State.freeRecord s

/-- Every port that holds the grant is in the record's read mask (R8). -/
def State.readByAll (s : State) (g : Grant) (r : MsgRec) : Bool :=
  s.ports.all fun p _ => !(s.holds p g) || r.readMask.get p

/-- A bulletin record that the register references (R133). -/
def State.referenced (s : State) (n : Nat) : Bool := s.bcast.register.any fun e => e.msg = some n

/-- The reclaim tier of a record, tier 3 in its two parts, or none (R8). -/
def State.reclaimTier (s : State) (n : Nat) (r : MsgRec) : Option Nat :=
  if r.keep then none
  else match r.cls, r.dir, r.state with
    | .traffic, .inbound, .stored => if s.readByAll .readTraffic r then some 1 else none
    | .report, .outbound, .delivered => none
    | _, .outbound, .delivered | _, .outbound, .confirmed | _, .outbound, .failed => some 2
    | .bulletin, _, .stored =>
      if s.readByAll .readBulletin r then (if s.referenced n then some 4 else some 3) else none
    | _, _, _ => none

/-- The older of two records: the greater age, then the lower number (R10). -/
def olderThan (now : Time) (a : Nat × MsgRec) (b : Nat × MsgRec) : Bool :=
  decide (age now b.2.created < age now a.2.created) || (age now a.2.created == age now b.2.created && decide (a.1 < b.1))

/-- The record that reclaim frees next: lowest tier, oldest first (R8). -/
def State.victim (s : State) : Option Nat :=
  let best := s.store.recs.foldl
    (fun (acc : Option (Nat × (Nat × MsgRec))) e =>
      match s.reclaimTier e.1 e.2, acc with
      | none, _ => acc
      | some t, none => some (t, e)
      | some t, some (t', e') =>
        if t < t' || (t == t' && olderThan s.time.now e e') then some (t, e) else acc)
    none
  best.map (·.2.1)

/-- Reclaim frees candidates one at a time until the condition holds or none remains (R8). -/
def State.reclaim : Nat → (State → Bool) → State → State
  | 0, _, s => s
  | k + 1, ok, s =>
    if ok s then s
    else match s.victim with
      | none => s
      | some n => State.reclaim k ok (s.freeRecord n)

/-- The conditions of an allocation of pages (R2) and of a record (R3). -/
def State.pagesOk (s : State) (perm : Permission) (n : Nat) : Bool :=
  match perm with
  | .ordinary => decide (n + Config.pageReserve ≤ s.freePages)
  | .reserve => decide (n ≤ s.freePages)

def State.recordOk (s : State) (perm : Permission) : Bool :=
  match perm with
  | .ordinary => decide (Config.recReserve + 1 ≤ s.freeRecords)
  | .reserve => decide (1 ≤ s.freeRecords)

/-- Reclaim run for a condition: as many frees as there are records is enough. -/
def State.reclaimFor (s : State) (ok : State → Bool) : State := State.reclaim s.store.recs.length ok s

/-- Allocate pages to a record, from the front of the free list to the end of its page list; what reclaim has freed
stays free when the allocation fails (R2). -/
def State.allocPages (s : State) (perm : Permission) (n msg : Nat) : Bool × State :=
  let s1 := s.reclaimFor fun t => t.pagesOk perm n
  if s1.pagesOk perm n then
    (true,
      ({ s1 with store.free := s1.store.free.drop n }.updRecord msg fun r =>
        { r with pages := r.pages ++ s1.store.free.take n }).storeLowTest)
  else (false, s1)

/-- The number after a message number, wrapping from 65535 to 1 (R5). -/
def nextNumber (n : Nat) : Nat := if 65535 ≤ n then 1 else n + 1

/-- The candidate, or the first number after it that no record holds (R5). -/
def freeNumber (recs : Table MsgRec) : Nat → Nat → Nat
  | 0, n => n
  | k + 1, n => if (recs.find n).isSome then freeNumber recs k (nextNumber n) else n

/-- Allocate a record (R3) and give it its number (R5). -/
def State.allocRecord (s : State) (perm : Permission) (r : MsgRec) : Option Nat × State :=
  let s1 := s.reclaimFor fun t => t.recordOk perm
  if s1.recordOk perm then
    let n := freeNumber s1.store.recs (s1.store.recs.length + 1) s1.store.next
    (some n, { s1 with store.recs := s1.store.recs.put n r, store.next := nextNumber n })
  else (none, s1)

/-- Pages that a text needs (R4). -/
def pagesFor (len : Nat) : Nat := (len + (Config.pageBytes - 1)) / Config.pageBytes

/-- Allocate a record and the pages of its whole text; if the pages fail, the record is freed again (R2, R3). -/
def State.allocText (s : State) (perm : Permission) (r : MsgRec) : Option Nat × State :=
  match s.allocRecord perm r with
  | (none, s1) => (none, s1)
  | (some n, s1) =>
    if r.textLen = 0 then (some n, s1)
    else match s1.allocPages perm (pagesFor r.textLen) n with
      | (true, s2) => (some n, s2)
      | (false, s2) => (none, s2.freeRecord n)

/-- A new record with the fields that R4 gives at allocation. -/
def MsgRec.new (now : Time) (cls : Cls) (dir : Dir) (prec : Prec) (state : MsgState) (orig : Originator) (peer : Nat) :
    MsgRec :=
  { cls, dir, prec, state, orig, peer, peerRef := none, created := now, textLen := 0, text := [], pages := [],
    attempts := 0, readMask := ⟨false, false, false⟩, keep := false, withdrawPending := false, delivered := none,
    identity := none, span := none, errFig := none }

/-! ### Transitions (R6) -/

/-- SENDING to QUEUED without an attempt counted. -/
def State.requeue (s : State) (n : Nat) : State := s.updRecord n fun r => { r with state := .queued }

/-- SENDING to QUEUED with an attempt counted, or on to FAILED at five (R6, R12). -/
def State.requeueCounted (s : State) (n : Nat) : State :=
  match s.record n with
  | none => s
  | some r =>
    if Config.maxAttempts ≤ r.attempts + 1 then
      (s.updRecord n fun r => { r with attempts := r.attempts + 1, state := .failed }).raise (.failed n)
    else s.updRecord n fun r => { r with attempts := r.attempts + 1, state := .queued }

/-- SENDING to DELIVERED: delivered time, withdraw-pending cleared, DELIVERED raised (R6, R11), and for a report its
overdue timer (R155). -/
def State.deliver (s : State) (n : Nat) : State :=
  match s.record n with
  | none => s
  | some r =>
    let s1 := (s.updRecord n fun r =>
      { r with state := .delivered, delivered := some s.time.now, withdrawPending := false }).raise (.delivered n)
    if r.cls = .report then
      { s1 with catch_.overdue := s1.catch_.overdue.put n (s1.after Config.overdueSeconds) }
    else s1

/-- DELIVERED to QUEUED for a report: delivered time absent, overdue timer disarmed (R149, R155). -/
def State.requeueReport (s : State) (n : Nat) : State :=
  { s.updRecord n fun r => { r with state := .queued, delivered := none } with catch_.overdue := s.catch_.overdue.del n }

/-- The numbers of the records that meet a test, ascending. -/
def State.numbersWhere (s : State) (f : MsgRec → Bool) : List Nat := (s.store.recs.filter fun e => f e.2).map (·.1)

/-! ### Sending order (R10) -/

/-- Whether a record is QUEUED for a station at or above a floor; no floor takes none (R10, R74). One that a hold has
returned to QUEUED with its withdrawal pending is not sent again (R11, R86, log entry 34). -/
def MsgRec.sendable (station : Nat) (floor : Option Prec) (r : MsgRec) : Bool :=
  r.dir == .outbound && r.state == .queued && !r.withdrawPending && r.peer == station &&
    match floor with
    | none => false
    | some p => decide (r.prec.code ≤ p.code)

/-- Before in sending order: higher precedence, then older, then the lower number (R10). -/
def sendsBefore (now : Time) (a b : Nat × MsgRec) : Bool :=
  decide (a.2.prec.code < b.2.prec.code) || (a.2.prec.code == b.2.prec.code && olderThan now a b)

/-- The first record of a list under an order. -/
def firstBy {α : Type} (before : α → α → Bool) (l : List α) : Option α :=
  l.foldl (fun acc e => match acc with
    | none => some e
    | some b => if before e b then some e else some b) none

/-- The records that may be sent to a station now. -/
def State.sendables (s : State) (station : Nat) (floor : Option Prec) : List (Nat × MsgRec) :=
  s.store.recs.filter fun e => e.2.sendable station floor

/-- The first record in a station's sending order at or above a floor (R10). -/
def State.firstToSend (s : State) (station : Nat) (floor : Option Prec) : Option (Nat × MsgRec) :=
  firstBy (sendsBefore s.time.now) (s.sendables station floor)

end Sys2Proof.Machine
end

