-- ==== Sys2Proof/Machine/Directory.lean ====
section
/-! DEFINITION. The station directory: entries, quality, scores and channel choice (R35 to R40), precedence floors and due
stations (R74, R75), and the pacing of calls (R31, R79). -/

namespace Sys2Proof.Machine

/-! ### Entries -/

/-- The loaded entry that holds a station number (R27: numbers are unique among loaded entries). -/
def State.entryOf (s : State) (number : Nat) : Option (Nat × Station) :=
  s.dir.stations.find? fun e => e.2.cfg.number == number

/-- The loaded entry's fields for a station number. -/
def State.stationOf (s : State) (number : Nat) : Option Station := (s.entryOf number).map (·.2)

/-- A station number is held by a loaded entry. -/
def State.knows (s : State) (number : Nat) : Bool := (s.entryOf number).isSome

/-- Change the entry that holds a station number. -/
def State.updStation (s : State) (number : Nat) (f : Station → Station) : State :=
  { s with dir.stations := s.dir.stations.map fun e => if e.2.cfg.number = number then (e.1, f e.2) else e }

def State.channel (s : State) (n : Nat) : Option Channel := s.dir.channels.find n

def State.updChannel (s : State) (n : Nat) (f : Channel → Channel) : State :=
  { s with dir.channels := s.dir.channels.upd n f }

/-- The entry that carries AUTHORITY (R27, R150). -/
def State.authority (s : State) : Option Nat :=
  (s.dir.stations.find? fun e => e.2.cfg.authority).map (·.2.cfg.number)

/-- The working rotation: loaded distress channels that are not disabled, ascending (R32, R167). -/
def State.rotation (s : State) : List Nat :=
  (s.dir.channels.filter fun e => e.2.cfg.use == .distress && !e.2.cfg.disabled).map (·.1)

/-! ### Quality (R36) -/

/-- Q moves a quarter of the way to the sample, rounded away from Q (R36). -/
def moveQ (q sample : Nat) : Nat :=
  if q ≤ sample then q + (sample - q + 3) / 4 else q - (q - sample + 3) / 4

/-- One sample for a channel (R35, R36). -/
def State.sample (s : State) (ch v : Nat) : State := s.updChannel ch fun c => { c with q := moveQ c.q v }

/-- The share floor(1000 × a / n) (R35). -/
def perMille (a n : Nat) : Nat := 1000 * a / n

/-! ### Scores and choice (R37 to R40) -/

/-- The usable window is open at the current hour; with an UNSET clock only when it is always open (R38). -/
def windowOpen (source : ClockSource) (now : Time) (c : ChannelCfg) : Bool :=
  let h := secondOfDay now / 3600
  if c.startHour = c.endHour then true
  else if source = .unset then false
  else if c.startHour < c.endHour then decide (c.startHour ≤ h) && decide (h < c.endHour)
  else decide (c.startHour ≤ h) || decide (h < c.endHour)

/-- A failed call lies less than 600 s in the past (R37). -/
def Channel.failedLately (now : Time) (c : Channel) : Bool :=
  match c.lastFail with
  | none => false
  | some t => decide (age now t < Config.failureSeconds)

/-- A channel's score (R38). -/
def State.score (s : State) (c : Channel) : Nat :=
  let base := c.q * (if windowOpen s.time.source s.time.now c.cfg then 2 else 1)
  if c.failedLately s.time.now then base / 2 else base

/-- The enabled listed channel of highest score, the earlier in the list among equals (R39). -/
def State.bestOf (s : State) (ok : Channel → Bool) (list : List Nat) : Option Nat :=
  let candidates := list.filterMap fun n =>
    match s.channel n with
    | some c => if !c.cfg.disabled && ok c then some (n, s.score c) else none
    | none => none
  (firstBy (fun a b => decide (b.2 < a.2)) candidates).map (·.1)

/-- The channel for a call attempt (R39). -/
def State.callChannel (s : State) (st : Station) : Option Nat := s.bestOf (fun _ => true) st.cfg.channels

/-- The call-watch channel: candidates of use TRAFFIC alone (R39, R72). -/
def State.watchChannelOf (s : State) (st : Station) : Option Nat :=
  s.bestOf (fun c => c.cfg.use == .traffic) st.cfg.channels

/-- The payload length that a Q gives (R40). -/
def payloadOfQ (q : Nat) : Nat := if 700 ≤ q then 32 else if 400 ≤ q then 16 else 8

/-! ### Holds, floors and due stations (R30, R74, R75) -/

/-- A station is held while either hold is set (R30). -/
def Station.held (st : Station) : Bool := st.shoreHold || st.consoleHold

/-- HOLD-CHANGED with both flags as they stand (R30). -/
def State.raiseHolds (s : State) (number : Nat) : State :=
  match s.stationOf number with
  | none => s
  | some st => s.raise (.holdChanged number st.shoreHold st.consoleHold)

/-- The own alert is PENDING, ALERTING or CANCELLING: no traffic, no call, no claim of the link engine (R74, R97). -/
def State.distressBars (s : State) : Bool :=
  match s.distress.state with
  | .pending | .alerting | .cancelling => true
  | .quiet | .acknowledged => false

/-- Silence is in force and another station imposed it (R74, R96, R113). -/
def State.silencedFor (s : State) (number : Nat) : Bool := s.handler.silence.any fun q => q.imposer != number

/-- The precedence floor of a station; none when no traffic may be taken (R74). -/
def State.floor (s : State) (number : Nat) : Option Prec :=
  if s.distressBars || s.silencedFor number then none
  else if s.distress.state = .acknowledged then some .distress
  else if (s.stationOf number).any (·.held) then some .urgency
  else some .routine

/-- The first record that may be sent to a station at its floor (R10, R74). -/
def State.firstFor (s : State) (number : Nat) : Option (Nat × MsgRec) := s.firstToSend number (s.floor number)

/-- Due for a call, its next-call time left out (R75, R78). -/
def State.wanted (s : State) (st : Station) : Bool := !st.noChannel && (s.firstFor st.cfg.number).isSome

/-- The next-call time is absent or has passed (R75). -/
def State.callTimeOpen (s : State) (st : Station) : Bool := st.nextCall.all fun t => passed s.time.now t

/-- A loaded station is due (R75). -/
def State.due (s : State) (st : Station) : Bool := s.wanted st && s.callTimeOpen st

/-- The due station whose first record ranks highest (R75). -/
def State.dueChoice (s : State) : Option Nat :=
  let ranked := s.dir.stations.filterMap fun e =>
    if s.due e.2 then (s.firstFor e.2.cfg.number).map fun r => (e.2.cfg.number, r) else none
  (firstBy (fun a b => sendsBefore s.time.now a.2 b.2) ranked).map (·.1)

/-- A station is engaged: in a session or a session in waiting, or called from the first CALL burst on (R29). -/
def State.engaged (s : State) (number : Nat) : Bool :=
  s.link.session.any (·.peer == number) || s.link.await.any (fun w => w.station == number && !w.ending) ||
    s.link.round.any fun r => r.station == number && r.engaged

/-- The next-call time becomes absent (R31). -/
def Station.callOpen (st : Station) : Station := { st with nextCall := none, nextCallArmed := false }

/-- The minutes of backoff for a failed-round count (R79). -/
def backoffMinutes (k : Nat) : Nat := min (5 * 2 ^ (k - 1)) 60

/-- A failed round: k rises to at most 255, and the next call is put off with jitter (R31, R79). With the entry cleared
meanwhile nothing changes and nothing is drawn (model choice, log entry 56). -/
def State.backOff (s : State) (number : Nat) : State :=
  match s.stationOf number with
  | none => s
  | some st =>
    let k := min (st.k + 1) 255
    let (jitter, s1) := s.draw 60
    s1.updStation number fun t =>
      { t with k, nextCall := some (s1.after (backoffMinutes k * 60 + jitter)), nextCallArmed := true }

/-- A channel is named by a station's list. -/
def State.listed (s : State) (n : Nat) : Bool := s.dir.stations.any fun e => e.2.cfg.channels.contains n

/-- The no-channel marks of the stations that list a channel are cleared (R75). -/
def State.clearMarks (s : State) (n : Nat) : State :=
  { s with dir.stations := s.dir.stations.mapVals fun st =>
      if st.cfg.channels.contains n then { st with noChannel := false } else st }

end Sys2Proof.Machine
end

