-- ==== Sys2Proof/Machine/Radio.lean ====
section
/-! DEFINITION. The transceiver port: the control link, tuning, keying and cutting bursts of the main transceiver, and the
scan of the watch receiver (R183 to R190). -/

namespace Sys2Proof.Machine

/-! ### The control link (R183) -/

/-- A command becomes due: it takes the counter's tag and waits behind those being sent (R183). -/
def State.command (s : State) (radio : Radio) (kind : ControlKind) (tx rx : Nat := 0) : State :=
  { s with ctl := { tag := s.ctl.tag + 1, cmds := s.ctl.cmds ++ [{ radio, tag := s.ctl.tag, kind, tx, rx }] } }

/-! ### The main transceiver -/

/-- KEY is sent for a burst that goes on the air (R187). -/
def State.keyBurst (s : State) (b : Burst) : State :=
  { s.command .main .key with main.keyed := true, main.onAir := some (b, .keying s.ctl.tag) }

/-- A burst handed over by the holder: sent, or waiting behind a burst on the air or a tune in flight (R187). -/
def State.sendBurst (s : State) (b : Burst) : State :=
  if s.main.onAir.isNone && s.main.flight.isNone then s.keyBurst b
  else { s with main.burstQ := s.main.burstQ ++ [b] }

/-- The next waiting burst goes out when nothing is on the air and no tune is in flight (R187). -/
def State.nextBurst (s : State) : State :=
  match s.main.onAir, s.main.burstQ, s.main.flight with
  | none, b :: rest, none => { s with main.burstQ := rest }.keyBurst b
  | _, _, _ => s

/-- UNKEY: the keyed flag is cleared and nothing is on the air (R187). -/
def State.unkey (s : State) : State :=
  { s.command .main .unkey with main.keyed := false, main.onAir := none }

/-- TUNE-MAIN is sent to a channel's frequencies; its timer runs from the end of the command (R183, R184). -/
def State.sendTune (s : State) (ch : Nat) (c : Claim) : State :=
  let (tx, rx) := match s.channel ch with
    | some e => (e.cfg.tx, e.cfg.rx)
    | none => (0, 0)
  { s.command .main .tune tx rx with
    main.flight := some { channel := ch, requester := some c, tag := s.ctl.tag, timer := none } }

/-- The holder asks for a tune: it waits behind a tune in flight, is answered READY at once on the tuned channel, and is
sent otherwise (R184). -/
def State.tuneMain (s : State) (ch : Nat) (c : Claim) : State :=
  if s.main.flight.isSome then { s with main.nextTune := some (ch, c) }
  else if s.main.tuned = some ch then s.post (.tuned c true (!s.main.inService))
  else s.sendTune ch c

/-- The waiting tune is sent when none is in flight, to whatever channel the transceiver is then tuned (R184). -/
def State.sendWaitingTune (s : State) : State :=
  match s.main.flight, s.main.nextTune with
  | none, some (ch, c) => { s with main.nextTune := none }.sendTune ch c
  | _, _ => s

/-- The holder stops holding: its burst on the air is cut, its waiting bursts and waiting tune are dropped, and the answer
of its tune in flight goes to no one (R184, R187, R193). -/
def State.dropRadio (s : State) : State :=
  let s1 := if s.main.onAir.isSome then s.unkey else s
  { s1 with main.burstQ := [], main.nextTune := none, main.flight := s1.main.flight.map fun t => { t with requester := none } }

/-- The result of a tune is handed to its requester with the service state (R184). -/
def State.handTune (s : State) (t : Tune) (ready : Bool) : State :=
  match t.requester with
  | none => s
  | some c => s.post (.tuned c ready (!s.main.inService))

/-- A main tune ends READY: the channel is tuned, the fault count clears, and a waiting burst goes out (R184, R187). A waiting
tune goes before the burst, which then waits for that tune too (model choice, log entry 61). -/
def State.mainReady (s : State) (t : Tune) : State :=
  ({ s with main.flight := none, main.tuned := some t.channel, main.faults := 0 }.handTune t true).sendWaitingTune.nextBurst

/-- The holder whose waiting bursts are dropped with a tune that was not its own is told as of the FAULT (R187). `l` are the
bursts dropped. -/
def State.tellDropped (s : State) (t : Tune) (l : List Burst) : State :=
  match s.arb.holder with
  | none => s
  | some h => if l.isEmpty || t.requester == some h then s else s.post (.tuned h false (!s.main.inService))

/-- A main tune ends FAULT: nothing is tuned, waiting bursts are dropped and their holder is told, the count rises, and at
three in a row the transceiver goes out of service, which the arbiter acts on after the FAULT is handed over (R184, R185,
R187, R197). -/
def State.mainFault (s : State) (t : Tune) : State :=
  let faults := min (s.main.faults + 1) Config.mostFaults
  let s1 := { s with main.flight := none, main.tuned := none, main.faults := faults, main.burstQ := [] }
  let tell (u : State) : State := (u.handTune t false).tellDropped t s.main.burstQ
  if s.main.inService && faults == Config.mostFaults then
    (tell ({ s1 with main.inService := false }.raise (.radioFault .main false .faults (some t.channel)))).post .radioOut
  else (tell s1).sendWaitingTune

/-- The main tune in flight ends (R184). -/
def State.endMainTune (s : State) (ready : Bool) : State :=
  match s.main.flight with
  | none => s
  | some t => if ready then s.mainReady t else s.mainFault t

/-- The last bit of the burst on the air has gone out: UNKEY, the holder is told, and the next burst goes out (R187). -/
def State.endBurst (s : State) : State :=
  match s.main.onAir with
  | none => s
  | some (b, _) => (s.unkey.post (.burstEnded b)).nextBurst

/-! ### The watch receiver (R189, R190) -/

/-- The next entry of a rotation after a position (R167, R189). -/
def nextAfter (pos : Nat) (l : List Nat) : Option Nat := l.find? fun n => decide (pos < n)

/-- A dwell of 2 s begins (R189). -/
def State.startDwell (s : State) : State :=
  { s with watch.dwell := .dwelling, watch.timer := some (s.after Config.dwellSeconds) }

/-- TUNE-WATCH is sent: transmit frequency 0 (R189, 11.4). -/
def State.sendWatchTune (s : State) (ch : Nat) : State :=
  { s.command .watch .tune 0 ((s.channel ch).elim 0 (·.cfg.rx)) with
    watch.flight := some { channel := ch, requester := none, tag := s.ctl.tag, timer := none }
    watch.dwell := .tuning, watch.timer := none }

/-- A step of the scan (R189). -/
def State.watchStep (s : State) : State :=
  let list := s.rotation
  match (nextAfter s.watch.pos list).or list.head? with
  | none => { s with watch.dwell := .idleDwell, watch.timer := some (s.after Config.dwellSeconds) }
  | some n =>
    let s1 := { s with watch.pos := n }
    if s.watch.tuned = some n then s1.startDwell else s1.sendWatchTune n

/-- A watch tune ends READY (R189). -/
def State.watchReady (s : State) (t : Tune) : State :=
  { s with watch.flight := none, watch.tuned := some t.channel, watch.faults := 0 }.startDwell

/-- A watch tune ends FAULT; at three in a row the receiver goes out of service and the scan stops (R189, R190). -/
def State.watchFault (s : State) (t : Tune) : State :=
  let faults := min (s.watch.faults + 1) Config.mostFaults
  let s1 := { s with watch.flight := none, watch.tuned := none, watch.faults := faults }
  if s.watch.inService && faults == Config.mostFaults then
    { s1 with watch.inService := false, watch.dwell := .stopped, watch.timer := none }.raise
      (.radioFault .watch false .faults (some t.channel))
  else s1.watchStep

/-- The watch tune in flight ends (R189). -/
def State.endWatchTune (s : State) (ready : Bool) : State :=
  match s.watch.flight with
  | none => s
  | some t => if ready then s.watchReady t else s.watchFault t

/-! ### Commands sent (R183, R184, R187, R189) -/

/-- The timer of a tune starts when its command has gone out. -/
def Tune.started (tag : BitVec 8) (target : Time) (t : Tune) : Tune :=
  if t.tag = tag then { t with timer := some target } else t

/-- What follows the last byte of a command: a tune timer of 3 s, or the key-up time of the burst whose KEY it is (R183,
R187). -/
def State.commandSent (s : State) (c : ControlCmd) : State :=
  let target := s.after Config.tuneSeconds
  match c.radio, c.kind with
  | .main, .tune => { s with main.flight := s.main.flight.map (Tune.started c.tag target) }
  | .watch, .tune => { s with watch.flight := s.watch.flight.map (Tune.started c.tag target) }
  | _, .key =>
    match s.main.onAir with
    | some (b, .keying tag) => if tag = c.tag then { s with main.onAir := some (b, .keyUp) } else s
    | _ => s
  | _, .unkey => s

/-- The command being sent has gone out, and the next one goes (R183). -/
def State.endCommand (s : State) : State :=
  match s.ctl.cmds with
  | [] => s
  | c :: rest => { s with ctl.cmds := rest }.commandSent c

end Sys2Proof.Machine
end

