-- ==== Sys2Proof/Machine/Airtime.lean ====
section
/-! DEFINITION. The airtime arbiter: claims, grants, revocations, yields and releases (R191 to R197). -/

namespace Sys2Proof.Machine

/-- The class of a claim, 1 the highest (9.3). -/
def Claim.cls : Claim → Nat
  | .distress => 1
  | .must _ => 2
  | .session => 3
  | .call => 4
  | .optional _ => 5
  | .watch => 6

/-- A claim joins the waiting list at its place: by class, then by arrival (R191). -/
def joinWaiting (c : Claim) : List Claim → List Claim
  | [] => [c]
  | d :: rest => if d.cls ≤ c.cls then d :: joinWaiting c rest else c :: d :: rest

/-- A claim of class 2 waits (R194). -/
def mustWaits (l : List Claim) : Bool := l.any fun c => c.cls == 2

/-- The arbiter's list order is by class (R191). -/
def waitingSorted : List Claim → Bool
  | [] => true
  | c :: rest => rest.all (fun d => decide (c.cls ≤ d.cls)) && waitingSorted rest

def State.holds_ (s : State) (c : Claim) : Bool := s.arb.holder == some c
def State.waits (s : State) (c : Claim) : Bool := s.arb.waiting.contains c

/-- A claim becomes the holder. GRANTED is a message of the same event, but for the distress unit, which takes it as an
event of its own (R166, R191). -/
def State.grant (s : State) (c : Claim) : State :=
  let s1 := { s with arb.holder := some c }
  if c = .distress then { s1 with distress.granted := true } else s1.post (.granted c)

/-- A new claim takes the transceiver from a holder at once (the table of R192). -/
def revokes (c h : Claim) : Bool := (c.cls == 1 && h.cls != 1) || (c.cls == 2 && decide (4 ≤ h.cls))

/-- The holder's claim is ended, and the holder is told with the cause (R193). -/
def State.revoke (s : State) (cause : RevokeCause) : State :=
  match s.arb.holder with
  | none => s
  | some h => { s.dropRadio with arb.holder := none, arb.yieldAsked := false }.post (.revoked h cause)

/-- A claim joins the list behind a holder, which may be asked to yield or told of a higher claim (R192, R194). -/
def State.wait (s : State) (c h : Claim) : State :=
  let s1 := { s with arb.waiting := joinWaiting c s.arb.waiting }
  if c.cls = 2 ∧ h.cls = 3 then
    if s.arb.yieldAsked then s1 else { s1 with arb.yieldAsked := true }.post .yieldAsked
  else if 3 ≤ c.cls ∧ c.cls ≤ 5 ∧ h.cls = 6 then s1.post .higherWaiting
  else s1

/-- A claim is placed (R192). No claim is held twice, and no block places one while the part loads (R191, R212). -/
def State.place (s : State) (c : Claim) : State :=
  if s.phase ≠ .running ∨ s.holds_ c ∨ s.waits c then s
  else if !s.main.inService && c != .distress then s.post (.refused c)
  else match s.arb.holder with
    | none => s.grant c
    | some h => if revokes c h then (s.revoke (.preEmpted c.cls)).grant c else s.wait c h

/-- What is said at once after a grant from the list: claims that wait behind a session or a call watch (R195). -/
def State.afterGrant (s : State) (c : Claim) : State :=
  if c.cls = 3 ∧ mustWaits s.arb.waiting then { s with arb.yieldAsked := true }.post .yieldAsked
  else if c.cls = 6 ∧ s.arb.waiting.any (fun d => decide (3 ≤ d.cls) && decide (d.cls ≤ 5)) then s.post .higherWaiting
  else s

/-- The arbiter works down the list: the first claim that may be granted becomes the holder, the ones before it are
REFUSED (R195). -/
def State.grantFrom (s : State) : List Claim → State
  | [] => { s with arb.waiting := [] }
  | c :: rest =>
    if s.main.inService || c == .distress then (({ s with arb.waiting := rest }.grant c).afterGrant c)
    else (s.post (.refused c)).grantFrom rest

def State.grantNext (s : State) : State := s.grantFrom s.arb.waiting

/-- The holder releases the transceiver, and the next claim is granted in the same event (R195). -/
def State.release (s : State) : State :=
  { s.dropRadio with arb.holder := none, arb.yieldAsked := false }.grantNext

/-- A waiting claim is withdrawn; when no class 2 claim waits any more, the yield is cancelled (R192, R194). -/
def State.withdrawClaim (s : State) (c : Claim) : State :=
  let l := s.arb.waiting.filter (· != c)
  { s with arb.waiting := l, arb.yieldAsked := s.arb.yieldAsked && mustWaits l }

/-- A claimant gives up a claim, held or waiting (R192, R195). -/
def State.giveUp (s : State) (c : Claim) : State := if s.holds_ c then s.release else s.withdrawClaim c

/-- The hold is raised to class 3 unless a claim of a higher class waits (R196). -/
def State.raiseToSession (s : State) : Option State :=
  if s.arb.waiting.any fun c => decide (c.cls < 3) then none else some { s with arb.holder := some .session }

/-- The arbiter acts on the main transceiver going out of service: a holder of class 2 to 6 is revoked, and with no holder
the list is worked down (R197); a tune that still waits then goes out (R184). -/
def State.radioOutOfService (s : State) : State :=
  let s1 := match s.arb.holder with
    | some .distress => s
    | some _ => s.revoke .radioFault
    | none => s
  (if s1.arb.holder.isNone then s1.grantNext else s1).sendWaitingTune

end Sys2Proof.Machine
end

