-- ==== Sys2Proof/Machine/Idle.lean ====
section
/-! DEFINITION. The link engine between calls: the call watch (R72), the test for due stations (R75, R77), and the end of a
round, a session in waiting or a session (R79, R82, R98). -/

namespace Sys2Proof.Machine

/-! ### The call watch (R72) -/

/-- The loaded entry of the watch station, if the watch station is one (R72). -/
def State.watchEntry (s : State) : Option Station := s.link.watchStation.bind s.stationOf

/-- The engine holds or claims the call watch: it is idle, and the distress state lets it claim (R72, R97). -/
def State.wantsWatch (s : State) : Bool := s.link.state == .idle && s.watchEntry.isSome && !s.distressBars

/-- The call watch is claimed (R72). -/
def State.claimWatch (s : State) : State := if s.wantsWatch then s.place .watch else s

/-- The channel of the latest tune that the call watch has asked for and that is not yet answered, else the tuned channel. A
tune of a former holder in flight counts for nothing: a tune asked for behind it waits and is sent if that one ends FAULT
(R184, log entry 11). -/
def State.comingChannel (s : State) : Option Nat :=
  match s.main.nextTune, s.main.flight with
  | some (ch, _), _ => some ch
  | none, some t => if t.requester = some .watch then some t.channel else none
  | none, none => s.main.tuned

/-- The call-watch channel is chosen, and the receiver is tuned to it if it is tuned elsewhere; with no candidate the engine
listens nowhere (R39, R72). -/
def State.chooseWatch (s : State) : State :=
  let choice := s.watchEntry.bind s.watchChannelOf
  let s1 := { s with link.watchChannel := choice }
  match choice with
  | none => s1
  | some ch => if s.comingChannel = some ch then s1 else s1.tuneMain ch .watch

/-- A choice event while the call watch is held (R72). -/
def State.rechooseWatch (s : State) : State := if s.holds_ .watch then s.chooseWatch else s

/-- The engine hears calls on the call-watch channel (R56, R72). -/
def State.listensWatch (s : State) : Bool :=
  s.holds_ .watch && s.link.watchChannel.isSome && s.link.watchChannel == s.main.tuned

/-- The call watch gives way to a waiting claim at once and is claimed again behind it (R72); a REJECT on the air is cut (model
choice beside R187, log entry 48). -/
def State.giveWay (s : State) : State := if s.holds_ .watch then s.release.claimWatch else s

/-! ### Starting a round (R75, R77) -/

/-- A call round begins: the class 4 claim is placed before the call watch is released, at once, so that a REJECT on the air is
cut (R72, R77; model choice beside R187, log entry 48). -/
def State.startRound (s : State) (number : Nat) : State :=
  let attempts := (s.stationOf number).elim 0 (·.cfg.attempts)
  let round : Round :=
    { station := number, left := attempts, phase := .claiming, channel := 0, entry := none, calls := 0, listen := none,
      engaged := false, ship := none }
  ({ s with link.state := .calling, link.round := some round, link.watchChannel := none }.place .call).giveUp .watch

/-- The test for due stations, made while the engine is idle (R75). -/
def State.dueTest (s : State) : State :=
  if s.phase = .running ∧ s.link.state = .idle then
    match s.dueChoice with
    | none => s
    | some number => s.startRound number
  else s

/-- The engine returns to IDLE, claims the call watch as R97 allows, and tests for due stations (R75, R98). -/
def State.toIdle (s : State) : State :=
  { s with
    link.state := .idle, link.round := none, link.await := none, link.session := none
    link.watchChannel := none }.claimWatch.dueTest

/-- The engine releases airtime and returns to IDLE. -/
def State.releaseToIdle (s : State) : State := s.release.toIdle

/-! ### Session end (R98) -/

/-- A record still SENDING at the end of a session (R11, R98 step 2). -/
def State.settleSending (counted : Bool) (s : State) (n : Nat) : State :=
  match s.record n with
  | none => s
  | some r => if r.withdrawPending then s.freeRecord n else if counted then s.requeueCounted n else s.requeue n

/-- The outbound records that the end of a session deals with: those SENDING, and those that a hold returned to QUEUED with
their withdrawal pending (R11, R98), in ascending message number (model choice, log entry 45). -/
def State.sessionRecords (s : State) : List Nat :=
  s.numbersWhere fun r => r.dir == .outbound && (r.state == .sending || r.withdrawPending)

/-- Steps 1 to 5 of R98: partial inbound message, SENDING records, log entry, k, SESSION notice. -/
def State.closeSession (s : State) (e : Session) (outcome : LogOutcome) (counted : Bool) : State :=
  let s1 := match e.inMsg with
    | some (n, _) => s.freeRecord n
    | none => s
  let s2 := s1.sessionRecords.foldl (State.settleSending counted) s1
  let s3 := s2.logComplete e.entry outcome e.lastMsg
  let s4 := if outcome = .complete then s3.updStation e.peer fun st => { st with k := 0 } else s3
  s4.raise (.session e.peer outcome e.delivered e.stored)

/-- A session ends by a CLEAR or as LOST: airtime is released (R98). -/
def State.endSession (s : State) (outcome : LogOutcome) (counted : Bool) : State :=
  match s.link.session with
  | none => s
  | some e => (s.closeSession e outcome counted).releaseToIdle

/-- A session is LOST (R88, R92). -/
def State.loseSession (s : State) : State := s.endSession .lost true

/-! ### A round ends (R79) -/

/-- The open CALL-OUT entry of the attempt is completed. -/
def State.closeAttempt (s : State) (r : Round) (outcome : LogOutcome) : State :=
  match r.entry with
  | some n => s.logComplete n outcome
  | none => s

/-- A round ends as failed, still holding airtime (R79). -/
def State.failRound (s : State) (r : Round) : State := (s.backOff r.station).releaseToIdle

/-- The engine's hold is revoked (R79, R96, R97, R193, R197). -/
def State.linkRevoked (s : State) (cause : RevokeCause) : State :=
  match s.link.state with
  | .idle => { s with link.watchChannel := none }.claimWatch
  | .calling =>
    match s.link.round with
    | none => s.toIdle
    | some r =>
      if cause = .radioFault then ((s.closeAttempt r .radioFault).backOff r.station).toIdle
      else (s.closeAttempt r .preEmpted).toIdle
  | .awaitFirst =>
    match s.link.await with
    | none => s.toIdle
    | some w => (s.logComplete w.entry .preEmpted).toIdle
  | .sending | .receiving | .clearing =>
    match s.link.session with
    | none => s.toIdle
    | some e => (s.closeSession e .preEmpted false).toIdle

end Sys2Proof.Machine
end

