-- ==== Sys2Proof/Machine/Broadcast.lean ====
section
/-! DEFINITION. The broadcast receiver: scheduled windows (R120 to R126), the collective reader (R66), bulletins (R127 to
R131) and the bulletin register (R133 to R136). -/

namespace Sys2Proof.Machine

/-! ### Window records -/

/-- The claim of a window: class 2 for MUST, class 5 for OPTIONAL (R120). -/
def Window.claim (w : Window) : Claim := if w.must then .must w.entry else .optional w.entry

/-- The window record of a schedule entry. -/
def State.window (s : State) (entry : Nat) : Option Window := s.bcast.windows.find? fun w => w.entry == entry

/-- The window record of a claim. -/
def State.windowOf (s : State) (c : Claim) : Option Window := s.bcast.windows.find? fun w => w.claim == c

def State.removeWindow (s : State) (entry : Nat) : State :=
  { s with bcast.windows := s.bcast.windows.filter fun w => w.entry != entry }

def State.updWindow (s : State) (entry : Nat) (f : Window → Window) : State :=
  { s with bcast.windows := s.bcast.windows.map fun w => if w.entry = entry then f w else w }

/-- The window of which frames are being taken (R124). -/
def State.receiving (s : State) : Option Window := s.bcast.windows.find? fun w => w.state == .receiving

/-- The reception state at its start: the reader cleared, OUTSIDE (R66, R124, R127). -/
def Reception.cleared : Reception := { next := none, held := [], settled := 0, errored := 0, bulletin := none }

/-- The error figure of a window, absent when no frame was settled (R124). -/
def Reception.figure (r : Reception) : Option Nat := if r.settled = 0 then none else some (1000 * r.errored / r.settled)

/-- The error figure of a bulletin, 0 when it has no TEXT frame (R130). -/
def Bulletin.figure (b : Bulletin) : Nat := 1000 * b.errored / b.frames

/-- BULLETIN-MISSED for a window record (R123), with the station number read at the taking, also when the station entry has
changed since (R120; model choice, log entry 58). -/
def State.raiseMissed (s : State) (w : Window) (outcome : LogOutcome) : State :=
  s.raise (.bulletinMissed w.entry w.station w.opening outcome)

/-! ### Taking an occurrence (R121) -/

/-- The opening time of an occurrence (R117, R121). -/
def openingTime (day : Int) (start : Nat) : Time := BitVec.ofInt 32 (day * 86400 + start * 60)

/-- The channel can be received: loaded, enabled, of use BROADCAST (R121). -/
def State.receivable (s : State) (n : Nat) : Bool :=
  (s.channel n).any fun c => !c.cfg.disabled && c.cfg.use == .broadcast

/-- The claim of a window is granted: the window entry is written and the receiver tunes (R124). A window that has acted on
its grant does nothing more. -/
def State.windowGranted (s : State) (c : Claim) : State :=
  match s.windowOf c with
  | none => s.release
  | some w =>
    if w.state ≠ .waiting then s
    else ((s.logWrite .bulletin w.station w.channel).updWindow w.entry fun v =>
      { v with state := .tuning, logEntry := s.log.next }).tuneMain w.channel c

/-- A window record is made and its claim placed (R121). The call watch gives way to an OPTIONAL claim, and a claim granted so,
or with no holder, is acted on before the next entry of a clock step is taken (R45, R72, R121, R124). A MUST claim that revokes a
holder leaves REVOKED and GRANTED as messages, taken after the whole step (model choice, log entry 51). -/
def State.openWindow (s : State) (w : Window) : State :=
  let s1 := { s with bcast.windows := s.bcast.windows ++ [w] }.place w.claim
  let s2 := if s1.waits w.claim && s.link.state == .idle then s1.giveWay else s1
  if (s.arb.holder.isNone || s1.waits w.claim) && s2.holds_ w.claim then s2.windowGranted w.claim else s2

/-- An occurrence of a loaded schedule entry is taken: it passes, is missed, or becomes a window record (R121). -/
def State.takeOccurrence (s : State) (entry : Nat) (cfg : ScheduleCfg) (day : Int) : State :=
  if !cfg.enabled then s
  else
    let opening := openingTime day cfg.start
    let endTime := opening + BitVec.ofNat 32 (cfg.duration * 60)
    let station := s.dir.stations.find cfg.station
    let number := station.elim 0 (·.cfg.number)
    if passed s.time.now endTime || station.isNone || !s.receivable cfg.channel || (s.window entry).isSome then
      (s.logMoment .bulletin number cfg.channel .missed).raise (.bulletinMissed entry number opening .missed)
    else
      s.openWindow
        { entry, station := number, channel := cfg.channel, must := cfg.must, opening, endTime, state := .waiting,
          logEntry := 0, rx := Reception.cleared }

/-- A schedule entry falls due: its last-taken day is set, and its occurrence is taken (R43, R121). -/
def State.scheduleDue (s : State) (entry : Nat) : State :=
  match s.bcast.schedule.find entry with
  | none => s
  | some e =>
    if calendarDue s.time.source s.time.now e.cfg.start e.lastTaken then
      let day := latestDay s.time.now e.cfg.start
      { s with bcast.schedule := s.bcast.schedule.put entry { e with lastTaken := some day } }.takeOccurrence entry e.cfg day
    else s

/-! ### The register (R133 to R136) -/

/-- Aged entries are removed (R133). -/
def State.ageRegister (s : State) : State :=
  { s with bcast.register := s.bcast.register.filter fun e =>
      decide (age s.time.now e.received ≤ Config.registerSeconds) }

/-- The record of a bulletin (R134). -/
def bulletinRecord (now : Time) (station : Nat) (b : Bulletin) : MsgRec :=
  let prec : Prec := match b.identity.kind with
    | .gale | .navigation => .safety
    | .weather | .ice => .routine
  { MsgRec.new now .bulletin .inbound prec .stored .air station with
    textLen := b.text.length, text := b.text, identity := some b.identity, errFig := some b.figure }

/-- The permission of a bulletin's allocation (R134). -/
def BulletinKind.permission : BulletinKind → Permission
  | .gale => .reserve
  | .weather | .navigation | .ice => .ordinary

/-- The register entry of a stored bulletin (R134, R135). -/
def Bulletin.regEntry (now : Time) (n : Nat) (b : Bulletin) : RegEntry :=
  { identity := b.identity, received := now, errFig := b.figure, msg := some n }

/-- A register entry holds an identity (R133). -/
def RegEntry.names (id : BulletinId) (e : RegEntry) : Bool := e.identity == id

/-- A register entry that holds another identity than the bulletin. -/
def Bulletin.otherEntry (b : Bulletin) (e : RegEntry) : Bool := !(e.names b.identity)

/-- A register entry is added at the end; the first of 64 leaves (R134). -/
def addRegister (e : RegEntry) (l : List RegEntry) : List RegEntry :=
  (if Config.registerEntries ≤ l.length then l.tail else l) ++ [e]

/-- The bulletin is stored: its entry is COMPLETE and BULLETIN-STORED is raised (R134, R136). -/
def State.bulletinKept (s : State) (station : Nat) (b : Bulletin) (n : Nat) : State :=
  (s.logComplete b.entry .complete (some n) (some b.figure)).raise (.bulletinStored n b.identity b.figure station)

/-- A bulletin that is in no register entry (R134). -/
def State.storeBulletin (s : State) (station : Nat) (b : Bulletin) : State :=
  match s.allocText b.identity.kind.permission (bulletinRecord s.time.now station b) with
  | (none, s1) => s1.logComplete b.entry .lost none (some b.figure)
  | (some n, s1) =>
    { s1 with bcast.register := addRegister (b.regEntry s.time.now n) s1.bcast.register }.bulletinKept station b n

/-- A better copy: the entry is refreshed and moves to the end, and the old record is freed unless kept (R135). -/
def State.betterCopy (s : State) (station : Nat) (b : Bulletin) (old : Nat) : State :=
  match s.allocText b.identity.kind.permission (bulletinRecord s.time.now station b) with
  | (none, s1) => s1.logComplete b.entry .lost none (some b.figure)
  | (some n, s1) =>
    let stillHeld := s1.bcast.register.any fun e => e.msg == some old
    let kept := (s1.record old).any (·.keep)
    let s2 := { s1 with bcast.register := s1.bcast.register.filter (b.otherEntry ·) ++ [b.regEntry s.time.now n] }
    (if stillHeld && !kept then s2.freeRecord old else s2).bulletinKept station b n

/-- A bulletin that passed the filter comes to the register (R133 to R135). -/
def State.register (s : State) (station : Nat) (b : Bulletin) : State :=
  let s1 := s.ageRegister
  match s1.bcast.register.find? (·.names b.identity) with
  | none => s1.storeBulletin station b
  | some e =>
    match e.msg with
    | some old =>
      if b.figure < e.errFig then s1.betterCopy station b old
      else s1.logComplete b.entry .duplicate (some old) (some b.figure)
    | none => s1.logComplete b.entry .duplicate none (some b.figure)

/-! ### Bulletins (R127 to R131) -/

/-- The area filter, at the moment the bulletin closes (R131). -/
def State.passesFilter (s : State) (b : Bulletin) : Bool :=
  b.areas.isEmpty || b.identity.kind == .gale ||
    match s.time.areaSet with
    | none => true
    | some l => b.areas.any fun a => l.contains a || s.time.watchAreas.contains a

/-- A bulletin closes (R129, R131). -/
def State.closeBulletin (s : State) (station : Nat) (b : Bulletin) : State :=
  if s.passesFilter b then s.register station b else s.logComplete b.entry .filtered none (some b.figure)

/-- Whether a list repeats a number. -/
def repeats : List Nat → Bool
  | [] => false
  | n :: rest => rest.contains n || repeats rest

/-- A BEGIN payload: identity and area list, if it is valid; the empty list stands for all areas (R128, 11.2). A counted area
number 0 is invalid (model choice, log entry 57). -/
def beginOf (p : List Byte) : Option (BulletinId × List Nat) :=
  match p with
  | l1 :: l2 :: k :: n :: count :: rest =>
    let areas := (rest.take count.toNat).map (·.toNat)
    match BulletinKind.ofLetter k with
    | some kind =>
      if isCapital l1 && isCapital l2 && decide (n.toNat ≤ 99) && decide (count.toNat ≤ 8) &&
          areas.all (fun a => decide (1 ≤ a) && decide (a ≤ 32)) && !(repeats areas) then
        some ({ letter1 := l1, letter2 := l2, kind, serial := n.toNat }, areas)
      else none
    | none => none
  | _ => none

/-- Text joins the buffer, up to 3,072 bytes (R129). -/
def Bulletin.addText (t : List Byte) (b : Bulletin) : Bulletin :=
  { b with text := (b.text ++ t).take Config.textBytes, frames := b.frames + 1 }

/-- The bulletin in progress of a window takes a value. -/
def State.setBulletin (s : State) (entry : Nat) (b : Option Bulletin) : State :=
  s.updWindow entry fun w => { w with rx.bulletin := b }

/-- A settled good BEGIN: it closes a bulletin in progress, and a valid one starts a bulletin (R128). -/
def State.takeBegin (s : State) (w : Window) (payload : List Byte) : State :=
  let s1 := match w.rx.bulletin with
    | some b => (s.setBulletin w.entry none).closeBulletin w.station b
    | none => s
  match beginOf payload with
  | none => s1
  | some (identity, areas) =>
    (s1.logWrite .bulletin w.station w.channel).setBulletin w.entry
      (some { identity, areas, text := [], frames := 0, errored := 0, entry := s1.log.next })

/-- A settled frame as the reader hands it on: good with its type and payload, or errored (R66). -/
def State.takeSettled (s : State) (entry : Nat) (good : Option (Nat × List Byte)) : State :=
  match s.window entry with
  | none => s
  | some w =>
    let s1 := s.updWindow entry fun v =>
      { v with rx.settled := v.rx.settled + 1, rx.errored := v.rx.errored + (if good.isNone then 1 else 0) }
    match good, w.rx.bulletin with
    | some (0, payload), _ => s1.takeBegin w payload
    | some (1, payload), some b =>
      s1.setBulletin entry (some (b.addText ((payload.filter (· != 0)).map airByte)))
    | some (2, _), some b => (s1.setBulletin entry none).closeBulletin w.station b
    | some _, _ => s1
    | none, some b =>
      s1.setBulletin entry (some { b.addText (List.replicate 16 star) with errored := b.errored + 1 })
    | none, none => s1

/-! ### The collective reader (R66) -/

/-- The reader's next number and held frames. -/
def State.setReader (s : State) (entry : Nat) (next : Half) (held : List HeldFrame) : State :=
  s.updWindow entry fun w => { w with rx.next := some next, rx.held := held }

/-- Step 4 of R66: frames settle from N upward. `f` is the arriving copy, taken as held. -/
def State.settleFrames : Nat → State → Nat → Half → Bool → State
  | 0, s, _, _, _ => s
  | k + 1, s, entry, f, second =>
    match s.window entry with
    | none => s
    | some w =>
      match w.rx.next with
      | none => s
      | some n =>
        let ahead := (f - n).toNat
        match w.rx.held.find? fun h => h.frame == n with
        | some h =>
          ((s.setReader entry (n + 1) (w.rx.held.filter fun h => h.frame != n)).takeSettled entry
            (some (h.kind, h.payload))).settleFrames k entry f second
        | none =>
          if 1 ≤ ahead ∧ ahead < 2 ^ 15 ∧ (second ∨ 6 ≤ ahead) then
            ((s.setReader entry (n + 1) w.rx.held).takeSettled entry none).settleFrames k entry f second
          else s

/-- The reader takes a good copy of the reception's station (R66). -/
def State.readFrame (s : State) (c : RxCollective) (kind : Nat) : State :=
  match s.receiving with
  | none => s
  | some w =>
    if c.station ≠ w.station then s
    else
      let n := w.rx.next.getD c.frame
      let d := (c.frame - n).toNat
      if 2 ^ 15 ≤ d then s
      else
        let held :=
          if w.rx.held.any fun h => h.frame == c.frame then w.rx.held
          else w.rx.held ++ [{ frame := c.frame, kind, payload := c.payload }]
        (s.setReader w.entry n held).settleFrames (d + 8) w.entry c.frame c.second

/-! ### Grants, tunes and ends of a window (R122, R124 to R126) -/

/-- The claim of a window is refused (R122). -/
def State.windowRefused (s : State) (c : Claim) : State :=
  match s.windowOf c with
  | none => s
  | some w =>
    ((s.logMoment .bulletin w.station w.channel .radioFault).raiseMissed w .radioFault).removeWindow w.entry

/-- The tune of a granted window has ended (R124). -/
def State.windowTuned (s : State) (c : Claim) (ready : Bool) : State :=
  match s.windowOf c with
  | none => s
  | some w =>
    if w.state ≠ .tuning then s
    else if ready then s.updWindow w.entry fun v => { v with state := .receiving, rx := Reception.cleared }
    else
      (((s.logComplete w.logEntry .radioFault none w.rx.figure).raiseMissed w .radioFault).removeWindow w.entry).release

/-- The entries of a bulletin in progress and of its window are completed with their error figures (R124, R130). -/
def State.cutEntries (s : State) (w : Window) (bulletin window : LogOutcome) : State :=
  let s1 := match w.rx.bulletin with
    | some b => s.logComplete b.entry bulletin none (some b.figure)
    | none => s
  s1.logComplete w.logEntry window none w.rx.figure

/-- A bulletin in progress and the window's entry are completed, and the record is removed (R125, R126). -/
def State.cutReception (s : State) (w : Window) (bulletin window : LogOutcome) : State :=
  (s.cutEntries w bulletin window).removeWindow w.entry

/-- The hold of a window is revoked (R126). -/
def State.windowRevoked (s : State) (c : Claim) (cause : RevokeCause) : State :=
  match s.windowOf c with
  | none => s
  | some w =>
    if cause = .radioFault then (s.cutReception w .radioFault .radioFault).raiseMissed w .radioFault
    else s.cutReception w .preEmpted .preEmpted

/-- The window end passes (R122, R125). -/
def State.windowEnded (s : State) (w : Window) : State :=
  match w.state with
  | .waiting =>
    (((s.withdrawClaim w.claim).logMoment .bulletin w.station w.channel .missed).raiseMissed w .missed).removeWindow w.entry
  | .tuning | .receiving => (s.cutReception w .lost .complete).release

end Sys2Proof.Machine
end

