-- ==== Sys2Proof/Machine/Catch.lean ====
section
/-! DEFINITION. The catch unit: conversion, tally rows, quotas, composing reports and saving the tally (R138 to R160). -/

namespace Sys2Proof.Machine

/-! ### Species, factors and conversion (R138 to R143) -/

/-- The entry that holds a species code. -/
def State.speciesOf (s : State) (code : List Byte) : Option (Nat × Species) :=
  s.catch_.species.find? fun e => e.2.cfg.code == code

/-- A code is named by a tally row or a factor entry (R139). -/
def Catch.names (c : Catch) (code : List Byte) : Bool :=
  c.rows.any (·.code == code) || c.factors.any (·.code == code)

/-- The factor of a species and form, if an entry holds the pair (R140, R143). -/
def State.factorOf (s : State) (code : List Byte) (form : Form) : Option Nat :=
  (s.catch_.factors.find? fun f => f.code == code && f.form == form).map (·.factor)

/-- Factor entries by species code, then by form (R140). -/
def Factor.before (a b : Factor) : Bool :=
  codeBefore a.code b.code || (a.code == b.code && decide (a.form.code < b.form.code))

/-- Write a factor entry at its place; an entry of the pair is replaced (R140). -/
def putFactor (f : Factor) : List Factor → List Factor
  | [] => [f]
  | g :: rest =>
    if g.code = f.code ∧ g.form = f.form then f :: rest
    else if f.before g then f :: g :: rest
    else g :: putFactor f rest

/-- The factor table of an image's entries, each at its place in the order of FACTOR-GET (R140). -/
def factorTable (l : List Factor) : List Factor := l.foldr putFactor []

/-- Live weight in whole kilograms, half a kilogram rounded up (R143). -/
def liveWeight (w f : Nat) : Nat := (w * f + 5000) / 10000

/-! ### Rows (R141, R144, R145) -/

/-- Rows by species code, then by area (R141). -/
def Row.before (a b : Row) : Bool := codeBefore a.code b.code || (a.code == b.code && decide (a.area < b.area))

/-- The row of a species and area. -/
def State.row (s : State) (code : List Byte) (area : Nat) : Option Row :=
  s.catch_.rows.find? fun r => r.code == code && r.area == area

/-- Write a row at its place; a row of the species and area is replaced (R141). -/
def putRow (r : Row) : List Row → List Row
  | [] => [r]
  | q :: rest =>
    if q.code = r.code ∧ q.area = r.area then r :: rest
    else if r.before q then r :: q :: rest
    else q :: putRow r rest

/-- The species' trip sum over all its rows (R146). -/
def State.tripSum (s : State) (code : List Byte) : Nat :=
  ((s.catch_.rows.filter fun r => r.code == code).map (·.trip)).sum

/-- A LANDING adds to a row, capped (R145). -/
def Row.land (l : Nat) (r : Row) : Row :=
  { r with day := min (r.day + l) Config.mostKilograms, trip := min (r.trip + l) Config.mostKilograms }

/-- A CORRECTION takes from a row, floored (R145). -/
def Row.correct (l : Nat) (r : Row) : Row := { r with day := r.day - l, trip := r.trip - l }

/-- A LANDING took the cap; a CORRECTION took the floor (R145). -/
def Row.saturates (l : Nat) (r : Row) : Bool :=
  decide (Config.mostKilograms < r.day + l) || decide (Config.mostKilograms < r.trip + l)

def Row.clamps (l : Nat) (r : Row) : Bool := decide (r.day < l) || decide (r.trip < l)

/-! ### Quotas (R146) -/

/-- The target state for a quota and a trip sum (R146). -/
def quotaTarget (q sum : Nat) : QuotaState :=
  if q = 0 then .none
  else if q ≤ sum then .reached
  else if 90 * q ≤ sum * 100 then .near
  else .none

/-- The species' state becomes the target; rises raise their notice once between two TRIP-STARTs (R146). -/
def Species.evaluate (sum : Nat) (haul : Option Nat) (sp : Species) : Species × List Notice :=
  let target := quotaTarget sp.cfg.quota sum
  let moved := { sp with state := target }
  match sp.state, target with
  | .none, .reached | .near, .reached =>
    if sp.reachedRaised then (moved, [])
    else ({ moved with nearRaised := true, reachedRaised := true }, [.quotaReached sp.cfg.code sum sp.cfg.quota haul])
  | .none, .near =>
    if sp.nearRaised then (moved, [])
    else ({ moved with nearRaised := true }, [.quotaNear sp.cfg.code sum sp.cfg.quota haul])
  | _, _ => (moved, [])

/-- The state of one species is worked out (R146). -/
def State.evaluateSpecies (s : State) (code : List Byte) (haul : Option Nat) : State :=
  match s.speciesOf code with
  | none => s
  | some (n, sp) =>
    let (sp', notices) := sp.evaluate (s.tripSum code) haul
    notices.foldl State.raise { s with catch_.species := s.catch_.species.put n sp' }

/-- Every species is worked out afresh, silently (R161). -/
def State.reworkSpecies (s : State) : State :=
  { s with catch_.species := s.catch_.species.mapVals fun sp =>
      { sp with state := quotaTarget sp.cfg.quota (s.tripSum sp.cfg.code) } }

/-! ### Saving the tally (R160) -/

/-- The copy of the tally that a save takes (R160). -/
def State.tallyCopy (s : State) : TallyImage :=
  { rows := s.catch_.rows, spanStart := s.catch_.spanStart
    quotas := s.catch_.species.map fun e =>
      { code := e.2.cfg.code, state := e.2.state, nearRaised := e.2.nearRaised, reachedRaised := e.2.reachedRaised } }

def SerialWrite.isTally : SerialWrite → Bool
  | .tally _ => true
  | .settings _ => false

/-- A write joins the serial memory's queue; a waiting tally takes the later copy in place (R160, R211). -/
def Settings.startWrite (c : Settings) (w : SerialWrite) : Settings :=
  if c.writing.isNone then { c with writing := some w }
  else if w.isTally && c.queue.any (·.isTally) then
    { c with queue := c.queue.map fun v => if v.isTally then w else v }
  else { c with queue := c.queue ++ [w] }

/-- A tally save is started (R160). -/
def State.saveTally (s : State) : State := { s with settings := s.settings.startWrite (.tally s.tallyCopy) }

/-! ### Composing reports (R149 to R154) -/

/-- A REPORT record is pending (R147). -/
def MsgRec.pendingReport (r : MsgRec) : Bool :=
  r.cls == .report && (r.state == .queued || r.state == .sending || r.state == .delivered)

/-- The pending REPORT records, in ascending message number (R147, R159; that order is the model's choice, log entry 53). -/
def State.pendingReports (s : State) : List Nat := s.numbersWhere MsgRec.pendingReport

/-- The span of a composition (R151). -/
def State.reportSpan (s : State) : Span :=
  let toDay := dayOf s.time.now
  match s.catch_.spanStart with
  | some d => if d ≤ toDay then { fromDay := d, toDay } else { fromDay := toDay, toDay }
  | none => { fromDay := toDay, toDay }

def crlf : List Byte := [0x0D, 0x0A]

/-- The header line of a report (R151). -/
def reportHeader (ship : Nat) (sp : Span) : List Byte :=
  ascii "CATCH " ++ decimal 7 ship ++ [0x20] ++ decimal 5 sp.fromDay ++ [0x20] ++ decimal 5 sp.toDay ++ crlf

/-- The line of a row (R151). -/
def Row.line (r : Row) : List Byte :=
  r.code ++ [0x20] ++ decimal 2 r.area ++ [0x20] ++ decimal 8 r.day ++ [0x20] ++ decimal 8 r.trip ++
    (if r.unconverted then ascii " U" else []) ++ crlf

/-- The text of a report: rows whose trip total is 0 are left out (R151). -/
def State.reportText (s : State) (sp : Span) : List Byte :=
  reportHeader s.settings.identity.number sp ++
    ((s.catch_.rows.filter fun r => r.trip != 0).map Row.line).flatten

/-- The rows after a composition: day totals and marks cleared, rows of trip total 0 removed (R152). -/
def rowsReported (l : List Row) : List Row :=
  (l.filter fun r => r.trip != 0).map fun r => { r with day := 0, unconverted := false }

/-- What follows a successful composition (R152), with the engine's test for due stations (R151). -/
def State.reported (s : State) (sp : Span) : State :=
  ({ s with
    catch_.rows := rowsReported s.catch_.rows
    catch_.spanStart := some (sp.toDay + 1)
    catch_.deferral := none }.saveTally).post .dueTest

/-- A failed composition: the first sets the deferral and raises REPORT-DEFERRED; a RETRY arms the timer again; others
leave the running timer (R153, R154). -/
def State.defer (s : State) (t : Trigger) : State :=
  let armed := { s with catch_.deferral := some (s.after Config.retrySeconds) }
  match s.catch_.deferral with
  | none => armed.raise (.reportDeferred t s.catch_.spanStart)
  | some _ => if t = .retry then armed else s

/-- Compose a report for the authority station, or defer (R151 to R153). -/
def State.compose (s : State) (t : Trigger) (authority : Nat) : State × Course :=
  let sp := s.reportSpan
  let text := s.reportText sp
  let r : MsgRec :=
    { MsgRec.new s.time.now .report .outbound .report .queued .composer authority with
      textLen := text.length, text, span := some sp }
  match s.allocText .reserve r with
  | (some n, s1) => (s1.reported sp, .composed n sp)
  | (none, s1) => (s1.defer t, .deferred)

/-- A pending report under a POLL or NOW trigger: one in DELIVERED returns to QUEUED (R149). -/
def State.pollPending (s : State) (n : Nat) : State :=
  if (s.record n).any fun r => r.state == .delivered then s.requeueReport n else s

/-- What is said of a pending report: re-queued, or left in its state (R157). -/
def State.pendingCourse (s : State) (n : Nat) : Nat × Option MsgState :=
  (n, ((s.record n).map (·.state)).filter fun st => st != .delivered)

/-- A trigger is taken: the authority test, the pending test, then the composition (R149, R150). -/
def State.trigger (s : State) (t : Trigger) : State × Course :=
  match s.authority with
  | none =>
    let s1 := s.raise (.noAuthority t)
    (if t = .retry then { s1 with catch_.deferral := none } else s1, .noAuthority)
  | some authority =>
    let pending := s.pendingReports
    if (t = .poll ∨ t = .now) ∧ pending ≠ [] then
      ((pending.foldl State.pollPending s).post .dueTest, .pendingReports (pending.map s.pendingCourse))
    else s.compose t authority

/-- The retry timer expires (R154). -/
def State.retryExpired (s : State) : State := (s.trigger .retry).1

/-- A report's overdue timer expires: it returns to QUEUED with REPORT-OVERDUE (R155). -/
def State.overdueExpired (s : State) (n : Nat) : State :=
  match s.record n with
  | none => s
  | some r =>
    if r.state = .delivered then ((s.requeueReport n).raise (.reportOverdue n r.span)).post .dueTest
    else { s with catch_.overdue := s.catch_.overdue.del n }

/-- A report is confirmed: REPORT-CONFIRMED, its overdue timer is disarmed, the span is kept (R111, R156). -/
def State.confirmReport (s : State) (n : Nat) : State :=
  match s.record n with
  | none => s
  | some r =>
    { (s.updRecord n fun r => { r with state := .confirmed }).raise (.reportConfirmed n r.span) with
      catch_.overdue := s.catch_.overdue.del n, catch_.lastConfirmed := r.span }

/-- The primary area: the lowest number of the area set, 0 when it is unknown or empty (R52). -/
def State.primaryArea (s : State) : Nat := (s.time.areaSet.getD []).headD 0

end Sys2Proof.Machine
end

