-- ==== Sys2Proof/Machine/Distress.lean ====
section
/-! DEFINITION. The distress unit: the own alert and its rotations (R162 to R174), other ships' alerts and the alarm (R175 to
R182). -/

namespace Sys2Proof.Machine

/-! ### The own alert's record -/

/-- OWN-ALERT with the record as it stands; the causes NO-CHANNEL and CANCELLED carry the count of ALERTs sent (R174). -/
def State.raiseOwn (s : State) (cause : OwnCause) : State :=
  let d := s.distress
  let sent := match cause with
    | .noChannel | .cancelled => some d.sent
    | .initiated | .updated | .acknowledged | .cancelling | .closed => none
  s.raise (.ownAlert cause d.state d.nature d.persons d.serial d.started d.ackStation sent)

/-- The ALERT-OUT entry of the rotation is completed, if one was written (R170). -/
def State.closeRotation (s : State) (outcome : LogOutcome) : State :=
  match s.distress.logEntry with
  | none => s
  | some n => { s.logComplete n outcome with distress.logEntry := none }

/-- COMPLETE when an ALERT was sent in the rotation, RADIO-FAULT otherwise (R170). -/
def State.rotationOutcome (s : State) : LogOutcome := if 0 < s.distress.sent then .complete else .radioFault

/-- The alert unit gives up its airtime, with any GRANTED message it has not taken (R166, R171). -/
def State.releaseDistress (s : State) : State :=
  { s with distress.granted := false, distress.releaseAfter := false, distress.grantAfter := false }.giveUp .distress

/-! ### Rotations (R167 to R172) -/

/-- The fix as sent in an ALERT or a STATUS record: position, fix time and stale flag (R68, R105). -/
def State.sentFix (s : State) : Int × Int × Time × Bool :=
  match s.time.fix with
  | none => (0, 0, 0, true)
  | some f => (f.lat, f.lon, f.time, decide (Config.freshSeconds < age s.time.now f.time))

/-- The ALERT built from the record and the fix; CANCEL in a cancellation rotation (R68, R172). -/
def State.buildAlert (s : State) : TxAlert :=
  let (lat, lon, fixTime, stale) := s.sentFix
  { ship := s.settings.identity.number
    nature := if s.distress.state = .cancelling then .cancel else s.distress.nature
    lat, lon, fixTime, stale, persons := min s.distress.persons 255, serial := s.distress.serial }

/-- A rotation ends with no next channel: the wait of 210 s and a draw is armed; a cancellation rotation ends the alert
(R169, R170, R172). -/
def State.endRotation (s : State) : State :=
  let s1 := { s.closeRotation s.rotationOutcome with distress.rotating := false }
  if s.distress.state = .cancelling then
    (({ s1 with distress.state := .quiet, distress.lamp := false }.releaseDistress).raiseOwn .cancelled).post .dueTest
  else
    let (jitter, s2) := s1.draw Config.cycleDraw
    let s3 := { s2 with distress.nextCycle := some (s2.after (Config.cycleSeconds + jitter)) }
    if s.distress.sent = 0 then s3.raiseOwn .noChannel else s3

/-- A step of a rotation: the next channel of the working rotation is tuned (R168). -/
def State.rotationStep (s : State) : State :=
  match nextAfter s.distress.rotPos s.rotation with
  | none => s.endRotation
  | some ch =>
    let s1 := match s.distress.logEntry with
      | some _ => s
      | none => { s.logWrite .alertOut s.settings.identity.number ch with distress.logEntry := some s.log.next }
    { s1 with distress.rotPos := ch, distress.awaitTune := true }.tuneMain ch .distress

/-- A rotation begins: the serial rises and the position returns to 0 (R168, R172). -/
def State.startRotation (s : State) : State :=
  { s with
    distress.serial := s.distress.serial + 1, distress.rotPos := 0, distress.sent := 0, distress.logEntry := none
    distress.rotating := true, distress.cancelAfter := false, distress.nextCycle := none }.rotationStep

/-- The tune of a step has ended: the ALERT goes out, or the channel is skipped; a cancellation that waited for it begins
its rotation (R168, R172). An ALERT counts as sent when it is handed over, so one still on the air at a cancellation makes
the entry COMPLETE (R170; model choice, log entry 39). -/
def State.alertTuned (s : State) (ready : Bool) : State :=
  if !s.distress.awaitTune then s
  else
    let s1 := { s with distress.awaitTune := false }
    if s.distress.cancelAfter then s1.startRotation
    else if !s.distress.rotating then s1
    else if ready then
      { s1 with distress.onAir := true, distress.sent := s.distress.sent + 1 }.sendBurst (.alert s1.buildAlert)
    else s1.rotationStep

/-- An ALERT has gone out: the unit releases after an acknowledgement, a new alert that waited for the burst is granted (log
entry 23), a cancellation that waited begins, the unit listens for 6 s, or takes the next step of a cancellation (R168, R171,
R172). -/
def State.alertSent (s : State) : State :=
  let s1 := { s with distress.onAir := false }
  if s.distress.releaseAfter then s1.releaseDistress
  else if s.distress.grantAfter then { s1 with distress.grantAfter := false, distress.granted := true }
  else if s.distress.cancelAfter then s1.startRotation
  else if !s.distress.rotating || s.distress.awaitTune then s1
  else if s.distress.state = .cancelling then s1.rotationStep
  else { s1 with distress.slot := some (s1.after Config.slotSeconds) }

/-- The unit takes GRANTED (R166, R172). -/
def State.takeGranted (s : State) : State :=
  if !s.distress.granted then s
  else
    let s1 := { s with distress.granted := false }
    match s.distress.state with
    | .pending => { s1 with distress.state := .alerting }.startRotation
    | .cancelling => s1.startRotation
    | .quiet | .alerting | .acknowledged => s1

/-! ### Initiation, acknowledgement, cancellation, closing (R163 to R173) -/

/-- The class 1 claim: placed, or held still from a closed alert, whose last burst goes out first (R168, log entry 23). -/
def State.claimDistress (s : State) : State :=
  if s.holds_ .distress then
    let s1 := { s with distress.releaseAfter := false }
    if s.distress.onAir then { s1 with distress.grantAfter := true } else { s1 with distress.granted := true }
  else s.place .distress

/-- An initiation in QUIET (R165). -/
def State.initiate (s : State) (nature : Nature) (persons : Nat) : State :=
  ({ s with
    distress.state := .pending, distress.nature := nature, distress.persons := persons
    distress.started := some s.time.now, distress.rotPos := 0, distress.nextCycle := none
    distress.ackStation := none, distress.lamp := true }.raiseOwn .initiated).claimDistress

/-- An initiation in PENDING or ALERTING by a request (R165). -/
def State.updateAlert (s : State) (nature : Nature) (persons : Nat) : State :=
  let kept := if nature = .undesignated then s.distress.nature else nature
  let s1 := { s with distress.nature := kept, distress.persons := persons }
  if kept = s.distress.nature ∧ persons = s.distress.persons then s1 else s1.raiseOwn .updated

/-- An initiation from the line (R163, R165). An ignored one writes its entry, and LOG-ADVANCED is raised for it as for every
entry (R23; model choice against R163's 'no notice', log entry 38). -/
def State.lineInitiation (s : State) : State :=
  match s.distress.state with
  | .quiet => s.initiate .undesignated 0
  | .pending | .alerting => s
  | .acknowledged | .cancelling => s.logMoment .alertOut s.settings.identity.number 0 .refused

/-- The cycle stops: slot and wait are disarmed, and the rotation's entry is completed (R171, R172). -/
def State.stopCycle (s : State) (outcome : LogOutcome) : State :=
  { s.closeRotation outcome with distress.slot := none, distress.nextCycle := none, distress.rotating := false }

/-- An acknowledgement of the own alert: its entry is written in every state, and PENDING or ALERTING becomes ACKNOWLEDGED
(R171). The engine then claims the call watch, and floors fall (R74, R97); the test for due stations comes before that claim
(model choice, log entry 60). -/
def State.acknowledgeOwn (s : State) (station channel : Nat) : State :=
  let s1 := s.logMoment .distressAck station channel .complete
  match s.distress.state with
  | .pending =>
    let s2 := if s.distress.onAir then { s1 with distress.grantAfter := false, distress.releaseAfter := true }
      else s1.releaseDistress
    (({ s2 with
        distress.state := .acknowledged, distress.ackStation := some station }).raiseOwn .acknowledged).post .dueTest
  | .alerting =>
    let s2 := ({ s1.stopCycle .complete with
      distress.state := .acknowledged, distress.ackStation := some station
      distress.awaitTune := false }).raiseOwn .acknowledged
    (if s.distress.onAir then { s2 with distress.releaseAfter := true } else s2.releaseDistress).post .dueTest
  | .quiet | .acknowledged | .cancelling => s1

/-- A cancellation taken in PENDING or ALERTING: the rotation begins at once, after the tune or burst in flight, or when
GRANTED is taken (R172). A tune of the unit that still waits behind another in flight goes out and answers first (model
choice, log entry 39). -/
def State.cancelAlert (s : State) : State :=
  let s1 := { s.stopCycle s.rotationOutcome with distress.state := .cancelling }.raiseOwn .cancelling
  if s.distress.state = .pending then s1
  else if s.distress.awaitTune || s.distress.onAir then { s1 with distress.cancelAfter := true }
  else s1.startRotation

/-- Closing an acknowledged alert (R173). -/
def State.closeAlert (s : State) : State :=
  ({ s with distress.state := .quiet, distress.lamp := false }.raiseOwn .closed).post .dueTest

/-! ### The distress list (R175 to R178) -/

/-- Serial e is at or before serial s, wrap-safe (R179). -/
def serialUpTo (e s : Nat) : Bool := decide ((s + 65536 - e) % 65536 < 32768)

/-- An entry at its place in a list ordered by serial, the oldest first (R179, R181). -/
def joinSerial (e : DistressEntry) : List DistressEntry → List DistressEntry
  | [] => [e]
  | d :: rest => if serialUpTo d.serial e.serial then d :: joinSerial e rest else e :: d :: rest

/-- The list by alarm serial from the oldest (R179, R181, log entry 27). -/
def bySerial (l : List DistressEntry) : List DistressEntry := l.foldl (fun acc e => joinSerial e acc) []

/-- The older of two list entries: greater age, then lower serial (R175). -/
def olderEntry (now : Time) (a b : DistressEntry) : Bool :=
  decide (age now b.last < age now a.last) ||
    (age now a.last == age now b.last && a.serial != b.serial && serialUpTo a.serial b.serial)

/-- The order in which full lists lose entries: CANCELLED and SHORE-ACKED, then SEEN, then NEW (R177). -/
def ListState.rank : ListState → Nat
  | .cancelled | .shoreAcked => 0
  | .seen => 1
  | .new => 2

def removedBefore (now : Time) (a b : DistressEntry) : Bool :=
  decide (a.state.rank < b.state.rank) || (a.state.rank == b.state.rank && olderEntry now a b)

/-- Room for a new entry: one of 16 is removed (R177). -/
def State.roomInList (s : State) : State :=
  if s.distress.list.length < Config.distressEntries then s
  else match firstBy (removedBefore s.time.now) s.distress.list with
    | none => s
    | some e => { s with distress.list := s.distress.list.filter (· != e) }

/-- The ship's entry that is not CANCELLED (R175). -/
def DistressEntry.live (ship : Nat) (e : DistressEntry) : Bool := e.ship == ship && e.state != .cancelled

/-- The count of NEW entries (R179). -/
def State.newEntries (s : State) : Nat := (s.distress.list.filter fun e => e.state == .new).length

/-- DISTRESS-RECEIVED with a serial, the entry that holds it, and the count of NEW entries (R179). -/
def State.raiseReceived (s : State) (serial : Nat) : State :=
  let held := (s.distress.list.find? fun e => e.serial == serial).map fun e => (e.ship, e.nature, e.lat, e.lon)
  s.raise (.distressReceived serial held s.newEntries)

/-- A received ALERT as taken: undefined natures and positions out of range (R68). -/
def natureTaken (a : RxAlert) : Nature := (Nature.ofCode a.nature).getD .undesignated

/-- The ranges of R47. -/
def latInRange (i : Int) : Bool := decide (-540000 ≤ i) && decide (i ≤ 540000)
def lonInRange (i : Int) : Bool := decide (-1080000 ≤ i) && decide (i ≤ 1079999)

def staleTaken (a : RxAlert) : Bool := a.stale || !(latInRange a.lat) || !(lonInRange a.lon)

/-- An entry heard again (R176). -/
def DistressEntry.again (now : Time) (channel : Nat) (e : DistressEntry) : DistressEntry :=
  { e with last := now, channel, count := min (e.count + 1) 255 }

/-- A received fix time is newer than the held one (R176). -/
def newerFix (t h : Time) : Bool := decide (1 ≤ (t - h).toNat) && decide ((t - h).toNat < 2 ^ 31)

/-- A repeat of an alert: nature and persons, and a newer position (R176). -/
def DistressEntry.repeated (now : Time) (channel : Nat) (a : RxAlert) (e : DistressEntry) : DistressEntry :=
  let e1 := { e.again now channel with nature := natureTaken a, persons := a.persons }
  if newerFix a.fixTime e.fixTime then
    { e1 with lat := a.lat, lon := a.lon, fixTime := a.fixTime, stale := staleTaken a }
  else e1

/-- The entry of a new alert (R175, R176). -/
def newEntry (now : Time) (channel serial : Nat) (a : RxAlert) : DistressEntry :=
  { ship := a.ship, nature := natureTaken a, lat := a.lat, lon := a.lon, fixTime := a.fixTime, stale := staleTaken a,
    persons := a.persons, channel, first := now, last := now, count := 1, serial, state := .new }

/-- The next alarm serial (R179). -/
def nextSerial (n : Nat) : Nat := if 65535 ≤ n then 1 else n + 1

/-- A new entry joins the list and, with the alarm inactive, sounds it (R176, R177, R179). -/
def State.addEntry (s : State) (a : RxAlert) (channel : Nat) : State :=
  let serial := nextSerial s.distress.highest
  let s1 := s.roomInList
  let s2 := { s1 with
    distress.list := s1.distress.list ++ [newEntry s.time.now channel serial a], distress.highest := serial }
  if s.distress.alarm then s2
  else { s2 with distress.alarm := true, distress.alarmLine := true }.raiseReceived serial

/-- Change the ship's live entry. -/
def State.updLive (s : State) (ship : Nat) (f : DistressEntry → DistressEntry) : State :=
  { s with distress.list := s.distress.list.map fun e => if e.live ship then f e else e }

/-- An ALERT handed to the unit (R176, R182). -/
def State.takeAlert (s : State) (a : RxAlert) (channel : Nat) : State :=
  let known := s.distress.list.any (·.live a.ship)
  if natureTaken a = .cancel then
    let s1 := if known then
        s.updLive a.ship fun e => { e.again s.time.now channel with state := .cancelled }
      else s
    s1.logMoment .alertIn a.ship channel .complete
  else if known then s.updLive a.ship fun e => e.repeated s.time.now channel a
  else (s.addEntry a channel).logMoment .alertIn a.ship channel .complete

/-- An acknowledgement of another ship's alert (R178). -/
def State.acknowledgeOther (s : State) (ship : Nat) : State := s.updLive ship fun e => { e with state := .shoreAcked }

/-- The channel of the main path's present tuning and of the watch path's dwell (R102, R188). -/
def State.pathChannel (s : State) (p : Path) : Nat :=
  match p with
  | .main => s.main.tuned.getD 0
  | .watch => s.watch.pos

/-- A good ALERT on a path: the main path hands it over in a listen slot; the ship's own is discarded (R56, R68). -/
def State.hearAlert (s : State) (p : Path) (a : RxAlert) : State :=
  if a.ship = s.settings.identity.number then s
  else match p with
    | .watch => s.takeAlert a (s.pathChannel p)
    | .main => if s.distress.slot.isSome then s.takeAlert a (s.pathChannel p) else s

/-! ### The alarm (R180) -/

/-- A NEW entry whose serial is at or before a serial becomes SEEN (R180). -/
def DistressEntry.see (serial : Nat) (e : DistressEntry) : DistressEntry :=
  if e.state = .new ∧ serialUpTo e.serial serial then { e with state := .seen } else e

/-- An acknowledgement of the alarm up to a serial: NEW entries become SEEN, and the alarm is silenced or sounded on
(R180). -/
def State.ackAlarm (s : State) (port : Port) (serial : Nat) : State :=
  let s1 := { s with distress.list := s.distress.list.map (DistressEntry.see serial) }
  if s1.newEntries = 0 then
    { s1 with distress.alarm := false, distress.alarmLine := false }.raise (.alarmAcked serial port)
  else s1.raiseReceived s.distress.highest

end Sys2Proof.Machine
end

