-- ==== Sys2Proof/Machine/Clock.lean ====
section
/-! DEFINITION. The fix and the sea areas (R47 to R52), calendar entries (R43) and clock loads (R44, R45). -/

namespace Sys2Proof.Machine

/-! ### The fix and the area set (R47 to R52) -/

/-- A point lies in an area; an area whose west exceeds its east crosses the 180° meridian (R51). -/
def Area.contains (lat lon : Int) (a : Area) : Bool :=
  decide (a.south ≤ lat) && decide (lat < a.north) &&
    (if a.west < a.east then decide (a.west ≤ lon) && decide (lon < a.east)
    else decide (a.west ≤ lon) || decide (lon < a.east))

/-- The numbers of the loaded areas that contain a point, ascending (R52). -/
def areasAt (areas : Table Area) (lat lon : Int) : List Nat :=
  (areas.filter fun e => e.2.contains lat lon).map (·.1)

/-- The fix is stale: more than 600 s old (R49). -/
def Fix.stale (now : Time) (f : Fix) : Bool := decide (Config.freshSeconds < age now f.time)

/-- There is a fresh fix. -/
def State.fixFresh (s : State) : Bool := s.time.fix.any fun f => !f.stale s.time.now

/-- The area set is worked out from the fix and the table; it is unknown without a fresh fix (R52). -/
def State.recomputeAreas (s : State) : State :=
  { s with time.areaSet :=
      match s.time.fix with
      | none => none
      | some f => if f.stale s.time.now then none else some (areasAt s.time.areas f.lat f.lon) }

/-- A new fix is taken now (R47, R48). -/
def State.takeFix (s : State) (lat lon : Int) (source : FixSource) : State :=
  { s with time.fix := some { lat, lon, time := s.time.now, source, ageArmed := true } }.recomputeAreas

/-- The time at which a fix becomes stale (R49). -/
def Fix.staleAt (f : Fix) : Time := f.time + BitVec.ofNat 32 (Config.freshSeconds + 1)

/-- The timer on the fix time, while its staleness has not been taken (R42, R49). -/
def State.ageTimer (s : State) : Option Time := s.time.fix.bind fun f => if f.ageArmed then some f.staleAt else none

/-- The fix becomes stale: POSITION-STALE once, and the area set is unknown (R49). -/
def State.positionStale (s : State) : State :=
  match s.time.fix with
  | none => s
  | some f =>
    { s with time.fix := some { f with ageArmed := false }, time.areaSet := none }.raise (.positionStale f)

/-! ### Calendar entries (R43, R121, R149) -/

/-- The report time falls due: its last-taken day is set, and a DAILY trigger is taken (R43, R149). -/
def State.reportDue (s : State) : State :=
  if calendarDue s.time.source s.time.now s.catch_.reportTime s.catch_.reportTaken then
    ({ s with catch_.reportTaken := some (latestDay s.time.now s.catch_.reportTime) }.trigger .daily).1
  else s

/-- Every calendar entry's last-taken day becomes its latest occurrence (R43). -/
def State.takeNothingPast (s : State) : State :=
  { s with
    bcast.schedule := s.bcast.schedule.mapVals fun e =>
      { e with lastTaken := some (latestDay s.time.now e.cfg.start) }
    catch_.reportTaken := some (latestDay s.time.now s.catch_.reportTime) }

/-- Every calendar entry is tested (R45 step 3), the schedule in entry order and then the report time (model choice, log entry
46). -/
def State.testCalendar (s : State) : State :=
  ((s.bcast.schedule.map (·.1)).foldl State.scheduleDue s).reportDue

/-! ### Clock loads (R44, R45) -/

/-- An armed target moves with the clock. -/
def shift (d : Time) (t : Option Time) : Option Time := t.map (· + d)

def Station.shift (d : Time) (st : Station) : Station := { st with nextCall := Machine.shift d st.nextCall }
def Channel.shift (d : Time) (c : Channel) : Channel := { c with lastFail := Machine.shift d c.lastFail }
def Round.shift (d : Time) (r : Round) : Round := { r with listen := Machine.shift d r.listen }
def Await.shift (d : Time) (w : Await) : Await := { w with wait := Machine.shift d w.wait }
def Session.shift (d : Time) (e : Session) : Session :=
  { e with
    tallyWin := Machine.shift d e.tallyWin, receiveWin := Machine.shift d e.receiveWin
    clearWait := Machine.shift d e.clearWait }
def Silence.shift (d : Time) (q : Silence) : Silence := { q with endTime := q.endTime + d }
def Window.shift (d : Time) (w : Window) : Window := { w with endTime := w.endTime + d }
def Tune.shift (d : Time) (t : Tune) : Tune := { t with timer := Machine.shift d t.timer }
def Fix.shift (d : Time) (f : Fix) : Fix := { f with time := f.time + d }

/-- Every interval timer of R42 and every last failed call time moves by the step (R45 step 1). The fix time and the next-call
time move whether or not their timer is armed (model choice, log entry 21). -/
def State.shiftTimers (s : State) (d : Time) : State :=
  { s with
    dir.stations := s.dir.stations.mapVals (Station.shift d)
    dir.channels := s.dir.channels.mapVals (Channel.shift d)
    time.fix := s.time.fix.map (Fix.shift d)
    link.round := s.link.round.map (Round.shift d)
    link.await := s.link.await.map (Await.shift d)
    link.session := s.link.session.map (Session.shift d)
    handler.silence := s.handler.silence.map (Silence.shift d)
    bcast.windows := s.bcast.windows.map (Window.shift d)
    catch_.overdue := s.catch_.overdue.mapVals (· + d)
    catch_.deferral := shift d s.catch_.deferral
    distress.nextCycle := shift d s.distress.nextCycle
    distress.holdTimer := shift d s.distress.holdTimer
    distress.slot := shift d s.distress.slot
    main.flight := s.main.flight.map (Tune.shift d)
    watch.flight := s.watch.flight.map (Tune.shift d)
    watch.timer := shift d s.watch.timer }

/-- The step of a load, as a signed number of seconds (R45). -/
def State.stepTo (s : State) (value : Time) : Int := (value - s.time.now).toInt

/-- A load of the clock is a step (R45). A fix whose moved staleness has passed becomes stale at once; other timers that
have passed are taken as events of their own. The call-watch channel is chosen again (R72), after the calendar entries and only
if they have left the call watch its hold (model choice, log entry 46). -/
def State.loadClock (s : State) (value : Time) (source : ClockSource) : State :=
  let old := s.time.now
  let s1 := s.shiftTimers (value - old)
  let s2 := { s1 with time.now := value, time.source := source }
  let s3 := if s.time.source = .unset then s2.takeNothingPast else s2
  let s4 := if s3.ageTimer.any (passed value) then s3.positionStale else s3
  let s5 := s4.testCalendar
  let d := s.stepTo value
  let s6 := if 2 ≤ d ∨ d ≤ -2 then s5.raise (.clockStepped old value source) else s5
  s6.rechooseWatch

end Sys2Proof.Machine
end

