-- ==== Sys2Proof/Machine/Formats.lean ====
section
/-! DEFINITION. The bytes that the part sends on the air and on the control link, and the two checks (Chapter 11). -/

namespace Sys2Proof.Machine

/-! ### Checks (R214) -/

/-- One message bit into the CRC-16 register. -/
def crc16Bit (r : BitVec 16) (b : Bool) : BitVec 16 :=
  if r.getLsbD 15 != b then (r <<< 1) ^^^ 0x1021#16 else r <<< 1

/-- One byte into the CRC-16, most significant bit first. -/
def crc16Byte (r : BitVec 16) (b : Byte) : BitVec 16 :=
  [7, 6, 5, 4, 3, 2, 1, 0].foldl (fun r i => crc16Bit r (b.getLsbD i)) r

/-- The CRC-16 of bursts, console frames, control messages and position records (R214). -/
def crc16 (l : List Byte) : BitVec 16 := l.foldl crc16Byte 0xFFFF#16

/-- The CRC-16 as sent, high byte first. -/
def crc16Bytes (l : List Byte) : List Byte := bytesOfNat 2 (crc16 l).toNat

/-- One message bit into the reflected CRC-32 register. -/
def crc32Bit (r : BitVec 32) (b : Bool) : BitVec 32 :=
  if r.getLsbD 0 != b then (r >>> 1) ^^^ 0xEDB88320#32 else r >>> 1

/-- One byte into the CRC-32, least significant bit first. -/
def crc32Byte (r : BitVec 32) (b : Byte) : BitVec 32 :=
  [0, 1, 2, 3, 4, 5, 6, 7].foldl (fun r i => crc32Bit r (b.getLsbD i)) r

/-- The CRC-32 of the serial-memory images (R214). -/
def crc32 (l : List Byte) : BitVec 32 := ~~~(l.foldl crc32Byte 0xFFFFFFFF#32)

/-! ### Air layouts (11.2) -/

def Purpose.code : Purpose → Nat
  | .traffic => 0
  | .report => 1
  | .pollAnswer => 2

def RejectReason.code : RejectReason → Nat
  | .busy => 0
  | .silence => 1
  | .unknown => 2

def ClockSource.code : ClockSource → Nat
  | .unset => 0
  | .console => 1
  | .coast => 2

def OwnState.code : OwnState → Nat
  | .quiet => 0
  | .pending => 1
  | .alerting => 2
  | .acknowledged => 3
  | .cancelling => 4

/-- The length code of a payload length (R59). -/
def lengthCode (payLen : Nat) : Nat := if payLen = 8 then 0 else if payLen = 16 then 1 else 2

def bit (n : Nat) (b : Bool) : Nat := if b then 2 ^ n else 0

/-- A volley frame: sequence and type, used length, padded payload, check (11.2). -/
def TxFrame.bytes (payLen : Nat) (f : TxFrame) : List Byte :=
  let body := [BitVec.ofNat 8 (f.seq.toNat + 16 * f.kind.code), BitVec.ofNat 8 f.payload.length] ++ padTo payLen f.payload
  body ++ crc16Bytes body

/-- The tally body: marks and next expected, then flags (11.2). -/
def TxTally.bytes (t : TxTally) : List Byte :=
  let marks := (t.marks.zipIdx.map fun e => bit e.2 e.1).sum
  [BitVec.ofNat 8 (marks + 16 * t.next.toNat),
   BitVec.ofNat 8 (bit 0 t.turnGrant + bit 1 t.turnRequest + bit 2 t.refused + bit 3 t.answerWaiting + bit 4 t.storeFull)]

def TxAlert.bytes (a : TxAlert) : List Byte :=
  bytesOfNat 3 a.ship ++ bytesOfNat 1 a.nature.code ++ bytesOfInt a.lat ++ bytesOfInt a.lon ++ bytesOfTime a.fixTime ++
    [byteOfBool a.stale] ++ bytesOfNat 1 a.persons ++ bytesOfNat 1 a.serial.toNat

/-- The kind byte and the body under the burst's CRC-16 (R54, 11.2). -/
def Burst.body : Burst → List Byte
  | .call station ship purpose waiting =>
      1 :: (bytesOfNat 3 station ++ bytesOfNat 3 ship ++ bytesOfNat 1 purpose.code ++ bytesOfNat 1 waiting)
  | .accept station ship => 2 :: (bytesOfNat 3 station ++ bytesOfNat 3 ship)
  | .reject station ship reason => 3 :: (bytesOfNat 3 station ++ bytesOfNat 3 ship ++ bytesOfNat 1 reason.code)
  | .volley counter payLen isOver answerFirst frames =>
      [4, counter, BitVec.ofNat 8 frames.length,
       BitVec.ofNat 8 (lengthCode payLen + bit 6 isOver + bit 7 answerFirst)]
  | .tally t => 5 :: t.bytes
  | .clear reason => [6, BitVec.ofNat 8 reason.code]
  | .alert a => 8 :: a.bytes

/-- What follows the burst's CRC-16: the frames of a volley (R54, R59). -/
def Burst.frames : Burst → List Byte
  | .volley _ payLen _ _ frames => (frames.map (·.bytes payLen)).flatten
  | _ => []

/-- A burst on the air: sync word 0xB4E1, kind, body, CRC-16, frames (R54). -/
def Burst.bytes (b : Burst) : List Byte := [0xB4, 0xE1] ++ b.body ++ crc16Bytes b.body ++ b.frames

/-- The bits of a burst in the order of sending: each byte least significant bit first (R54). -/
def bitsOf (l : List Byte) : List Bool := (l.map fun b => [0, 1, 2, 3, 4, 5, 6, 7].map fun i => b.getLsbD i).flatten

/-- A byte as an asynchronous character: a start bit, the eight bits least significant first, no parity, a stop bit (R214).
The idle line and the stop bit are 1, the start bit is 0. -/
def character (b : Byte) : List Bool := false :: (bitsOf [b] ++ [true])

/-- The characters of bytes on a console port, the control link or the navigation line (R214). -/
def characters (l : List Byte) : List Bool := (l.map character).flatten

/-- The answer record as carried in ANSWER frames (R61, R105, R106, 11.2). -/
def AnswerRecord.bytes : AnswerRecord → List Byte
  | .status ship composed lat lon fixTime stale source freePages queued own near reached =>
      [1, 29] ++ bytesOfNat 3 ship ++ bytesOfTime composed ++ bytesOfInt lat ++ bytesOfInt lon ++ bytesOfTime fixTime ++
        [byteOfBool stale] ++ bytesOfNat 1 source.code ++ bytesOfNat 2 freePages ++ bytesOfNat 1 queued ++
        bytesOfNat 1 own.code ++ bytesOfNat 1 near ++ bytesOfNat 1 reached
  | .identity ship name callSign => [2, 29] ++ bytesOfNat 3 ship ++ padTo 16 name ++ padTo 8 callSign

/-- The 6-byte message header (R62, 11.2). -/
def messageHeader (n : Nat) (r : MsgRec) : List Byte :=
  bytesOfNat 2 n ++ bytesOfNat 1 r.prec.code ++ bytesOfNat 1 r.cls.code ++ bytesOfNat 2 r.textLen

/-! ### The control link (11.4) -/

def Radio.code : Radio → Nat
  | .main => 0
  | .watch => 1

def ControlKind.code : ControlKind → Nat
  | .tune => 1
  | .key => 2
  | .unkey => 3

/-- A command message: start byte 0xC3, radio, tag, command, two frequencies, CRC-16 (11.4). -/
def ControlCmd.bytes (c : ControlCmd) : List Byte :=
  let body := bytesOfNat 1 c.radio.code ++ [c.tag] ++ bytesOfNat 1 c.kind.code ++ bytesOfNat 3 c.tx ++ bytesOfNat 3 c.rx
  0xC3 :: (body ++ crc16Bytes body)

/-- The line bits of a command message (R214). -/
def ControlCmd.lineBits (c : ControlCmd) : List Bool := characters c.bytes

end Sys2Proof.Machine
end

