-- ==== Sys2Proof/Machine/Session.lean ====
section
/-! DEFINITION. A session from the ship's side: opening, volleys built, tallies taken, yields, clearing, holds and
withdrawals in a session (R83 to R90, R94 to R96). -/

namespace Sys2Proof.Machine

/-- Change the session record. -/
def State.updSession (s : State) (f : Session → Session) : State := { s with link.session := s.link.session.map f }

/-! ### Opening (R83) -/

/-- The session record at opening (R83). -/
def Session.opened (peer channel : Nat) (entry : Half) : Session :=
  { peer, channel, entry, outNext := 0, inNext := 0, counter := 0, kept := none, inFlight := [], outMsg := none,
    inMsg := none, payLen := none, missTallies := 0, missVolleys := 0, overSent := false, turnYield := false, heldTurn := false,
    lastTally := none, lastMsg := none, tallyWin := none, receiveWin := none, clearWait := none, aborts := [],
    abortsSent := [], later := [], answerRest := [], answerCopy := none, after := .listen, delivered := 0, stored := 0 }

/-- A session opens: its SESSION entry is written, and the calling side sends first (R83). -/
def State.openSession (s : State) (peer channel : Nat) (as_ : LinkState) : State :=
  { s.logWrite .session peer channel with
    link.state := as_, link.round := none, link.await := none
    link.session := some (Session.opened peer channel s.log.next) }

/-! ### Answers (R94, R104) -/

/-- The answer owed to the session's peer that the engine has not begun to build (R94). -/
def State.freshAnswer (s : State) (e : Session) : Option LastAnswer :=
  s.handler.last.filter fun a => a.station == e.peer && a.owed && e.answerCopy != some a.serial

/-- An answer owed to the peer is not yet built (R63, R93). -/
def State.answerToBuild (s : State) (e : Session) : Bool := !e.answerRest.isEmpty || (s.freshAnswer e).isSome

/-- An answer is owed to a station (R57, R104). -/
def State.answerOwed (s : State) (number : Nat) : Bool := s.handler.last.any fun a => a.station == number && a.owed

/-- The ship holds traffic for the peer (R93). -/
def State.hasTraffic (s : State) (e : Session) : Bool := s.answerToBuild e || (s.firstFor e.peer).isSome

/-! ### Building a volley (R84, R85) -/

/-- A new frame joins the flight with the next sequence number (R84). -/
def Session.addFrame (e : Session) (kind : FrameKind) (payload : List Byte) (ends : Option Nat := none)
    (answers : Option Half := none) : Session :=
  { e with
    inFlight := e.inFlight ++ [{ frame := { seq := e.outNext, kind, payload }, sends := 1, ends, answers }]
    outNext := e.outNext + 1 }

/-- The next ANSWER frame of the copy being built; the last one carries the copy's serial (R61, R94, R104). -/
def Session.addAnswer (e : Session) (payLen : Nat) : Session :=
  let rest := e.answerRest.drop payLen
  { e.addFrame .answer (e.answerRest.take payLen) none (if rest.isEmpty then e.answerCopy else none) with
    answerRest := rest }

/-- The next frame of the message in progress: the header opens the first, and the frame with the last text byte is
TEXT-END (R62, R85). -/
def Session.addText (e : Session) (payLen n offset : Nat) (r : MsgRec) : Session :=
  let head := if offset = 0 then messageHeader n r else []
  let room := payLen - head.length
  let text := (r.text.drop offset).take room
  let last := decide (r.text.length ≤ offset + room)
  { e.addFrame (if last then .textEnd else .text) (head ++ text) (if last then some n else none) with
    outMsg := if last then none else some (n, offset + room) }

/-- The floor of the present sending turn: a shore-hold cleared in it holds records below URGENCY back until the next one
(R108). -/
def State.turnFloor (s : State) (e : Session) : Option Prec :=
  (s.floor e.peer).map fun p => if e.heldTurn && p == .routine then .urgency else p

/-- The next record in the peer's sending order for the present turn. A record whose TEXT-END had been built when a hold took it
back is sent whole in a later session (R86); it stays traffic held for the peer under R93 (model choice, log entry 50). -/
def State.turnRecord (s : State) (e : Session) : Option (Nat × MsgRec) :=
  { s with store.recs := s.store.recs.filter fun m => !e.later.contains m.1 }.firstToSend e.peer (s.turnFloor e)

/-- A record is taken into the session (R6, R85). -/
def State.takeRecord (s : State) (n : Nat) : State := s.updRecord n fun r => { r with state := .sending }

/-- The record that the next new frame comes from: the message in progress, or the next in sending order unless the turn
is to be yielded (R84, R85, R89). -/
def State.nextRecord (s : State) (e : Session) : Option (Nat × Nat) :=
  match e.outMsg with
  | some m => some m
  | none => if e.turnYield then none else (s.turnRecord e).map fun r => (r.1, 0)

/-- A new frame remains to be built (R84, R89). -/
def State.framesRemain (s : State) (e : Session) : Bool :=
  s.answerToBuild e || !e.aborts.isEmpty || (s.nextRecord e).isSome

/-- One new frame, from its sources in the order of R84: an owed TEXT-ABORT comes after ANSWER frames, also where R86 names
it the first new frame of the next volley (model choice, log entry 33). -/
def State.addNewFrame (s : State) (e : Session) (payLen : Nat) : State × Session :=
  if !e.answerRest.isEmpty then (s, e.addAnswer payLen)
  else match s.freshAnswer e with
    | some a => (s, { e with answerRest := a.record.bytes, answerCopy := some a.serial }.addAnswer payLen)
    | none =>
      match e.aborts with
      | a :: rest =>
        (s, { e.addFrame .textAbort (bytesOfNat 2 a.1) with aborts := rest, abortsSent := e.abortsSent ++ [a] })
      | [] =>
        match s.nextRecord e with
        | none => (s, e)
        | some (n, offset) =>
          match s.record n with
          | none => (s, { e with outMsg := none })
          | some r => (if offset = 0 then s.takeRecord n else s, e.addText payLen n offset r)

/-- New frames up to four in the volley (R84). -/
def State.addNewFrames : Nat → State → Session → Nat → State × Session
  | 0, s, e, _ => (s, e)
  | k + 1, s, e, payLen =>
    if e.inFlight.length < Config.volleyFrames ∧ s.framesRemain e then
      let (s1, e1) := s.addNewFrame e payLen
      s1.addNewFrames k e1 payLen
    else (s, e)

/-- The volley burst of a session (R59). -/
def Session.volley (e : Session) (payLen : Nat) (isOver : Bool) : Burst :=
  .volley e.counter payLen isOver (e.inFlight.head?.any fun f => f.frame.kind == .answer) (e.inFlight.map (·.frame))

/-- The payload length of a volley: chosen from Q with nothing in flight, kept otherwise (R40, R84). -/
def State.volleyPayload (s : State) (e : Session) : Nat :=
  let fresh := payloadOfQ ((s.channel e.channel).elim 0 (·.q))
  if e.inFlight.isEmpty then fresh else e.payLen.getD fresh

/-- The frames of the next volley: re-sends, new frames, or one EMPTY frame (R84). -/
def State.fillVolley (s : State) (e : Session) : State × Session :=
  let payLen := s.volleyPayload e
  let resent := { e with payLen := some payLen, inFlight := e.inFlight.map fun f => { f with sends := f.sends + 1 } }
  let (s1, e1) := s.addNewFrames Config.volleyFrames resent payLen
  (s1, if e1.inFlight.isEmpty then e1.addFrame .empty [] else e1)

/-- The ship builds a volley and hands it over (R84). -/
def State.buildVolley (s : State) : State :=
  match s.link.session with
  | none => s
  | some e =>
    let (s1, e1) := s.fillVolley e
    let isOver := !s1.framesRemain e1
    let e2 := { e1 with counter := e1.counter + 1, overSent := e1.overSent || isOver, tallyWin := none }
    { s1 with link.state := .sending, link.session := some e2 }.sendBurst (e1.volley (e1.payLen.getD 8) isOver)

/-- The ship takes the sending side (R89, R93). -/
def State.takeTurn (s : State) : State :=
  (s.updSession fun e => { e with turnYield := false, overSent := false, heldTurn := false, receiveWin := none }).buildVolley

/-- A volley has gone out: the records whose withdrawal owed a TEXT-ABORT that it carried are freed, and the tally window is
armed (R11, R84, R86). -/
def State.volleySent (s : State) : State :=
  match s.link.session with
  | none => s
  | some e =>
    let free := e.abortsSent.filter fun a => a.2 && (s.record a.1).any (·.withdrawPending)
    { s.freeRecords' (free.map (·.1)) with
      link.session := some { e with abortsSent := [], tallyWin := some (s.after Config.tallyWindow) } }

/-! ### Clearing (R64, R90, R96) -/

/-- The engine enters CLEARING and sends a CLEAR (R64). -/
def State.sendClear (s : State) (reason : ClearReason) : State :=
  ({ s with link.state := .clearing }.updSession fun e =>
    { e with tallyWin := none, receiveWin := none, clearWait := none }).sendBurst (.clear reason)

/-- A CLEAR has gone out, and the session ends with its outcome (R98). -/
def State.clearSent (s : State) (reason : ClearReason) : State :=
  match reason with
  | .done | .silence => s.endSession .complete true
  | .hold => s.endSession .preEmpted false
  | .error => s.endSession .lost true

/-- A good CLEAR of the peer ends the session (R64, R98). -/
def State.clearReceived (s : State) (reason : ClearReason) : State :=
  s.endSession (if reason = .error then .lost else .complete) true

/-- The reason of a yield that is pending at a volley boundary: a MUST broadcast before silence (R96, log entry 12). -/
def State.yieldReason (s : State) (e : Session) : Option ClearReason :=
  if s.arb.yieldAsked then some .hold else if s.silencedFor e.peer then some .silence else none

/-- In the clearing wait a yield makes the engine send CLEAR DONE at once (R96). -/
def State.yieldInClearing (s : State) : State :=
  match s.link.session with
  | some e =>
    if s.link.state = .clearing ∧ e.clearWait.isSome ∧ (s.yieldReason e).isSome then s.sendClear .done else s
  | none => s

/-! ### Tallies (R63, R87 to R90) -/

/-- The tally's next expected number is that of a frame in flight, or the number after the last frame sent (R63). -/
def Session.fitsTally (e : Session) (next : BitVec 4) : Bool :=
  next == e.outNext || e.inFlight.any fun f => f.frame.seq == next

/-- The frames in flight with their marks, in volley order (R63, R87). -/
def Session.marked (e : Session) (marks : BitVec 4) : List (Flight × Bool) :=
  e.inFlight.zipIdx.map fun f => (f.1, marks.getLsbD f.2)

/-- A frame's acknowledgement: a record whose TEXT-END it is enters DELIVERED, and the last frame of an answer clears the
owed flag of an answer that still has its serial (R87, R104). -/
def State.acknowledge (s : State) (f : Flight) : State :=
  let s1 := match f.ends with
    | none => s
    | some n =>
      if (s.record n).any fun r => r.state == .sending then
        (s.deliver n).updSession fun e => { e with lastMsg := some n, delivered := e.delivered + 1 }
      else s
  match f.answers with
  | none => s1
  | some serial =>
    { s1 with handler.last := s1.handler.last.map fun a => if a.serial = serial then { a with owed := false } else a }

/-- The session is LOST when a frame in flight has been sent six times (R88). -/
def Session.overSentFrames (e : Session) : Bool := e.inFlight.any fun f => decide (Config.mostSends ≤ f.sends)

/-- The tally ends the ship's sending turn (R90). -/
def State.endTurn (s : State) (turnGrant : Bool) : State :=
  if turnGrant then
    { s with link.state := .receiving }.updSession fun e =>
      { e with overSent := false, missVolleys := 0, receiveWin := some (s.after Config.receiveWindow) }
  else
    { s with link.state := .clearing }.updSession fun e => { e with clearWait := some (s.after Config.clearingWait) }

/-- What follows a tally exchange in SENDING: LOST, a pending yield, the end of the turn, or the next volley (R87 steps 5
and 6, R88, R90, R96). -/
def State.afterExchange (s : State) (turnGrant : Bool) : State :=
  match s.link.session with
  | none => s
  | some e =>
    if e.overSentFrames then s.loseSession
    else match s.yieldReason e with
      | some reason => s.sendClear reason
      | none => if e.overSent && e.inFlight.isEmpty then s.endTurn turnGrant else s.buildVolley

/-- A good tally for the volley that armed the window (R87, R89). -/
def State.tallyTaken (s : State) (e : Session) (t : RxTally) : State :=
  let marked := e.marked t.marks
  let acked := (marked.filter (·.2)).map (·.1)
  let s1 := s.sample e.channel (perMille acked.length e.inFlight.length)
  let s2 := s1.updSession fun e =>
    { e with
      tallyWin := none, missTallies := 0, inFlight := (marked.filter (!·.2)).map (·.1)
      turnYield := e.turnYield || t.turnRequest }
  (acked.foldl State.acknowledge s2).afterExchange t.turnGrant

/-- A TALLY heard in a session: taken in the tally window of SENDING, discarded otherwise (R63, R87, R91; in CLEARING the
discard is a model choice, log entry 55). -/
def State.hearTally (s : State) (t : RxTally) : State :=
  match s.link.session with
  | none => s
  | some e =>
    if s.link.state = .sending ∧ e.tallyWin.isSome ∧ e.fitsTally t.next then s.tallyTaken e t else s

/-- A tally window expires with no good tally: sample 0, and LOST at the third in a row (R88). -/
def State.tallyMissed (s : State) : State :=
  match s.link.session with
  | none => s
  | some e =>
    let missed := e.missTallies + 1
    let s1 := (s.sample e.channel 0).updSession fun e => { e with tallyWin := none, missTallies := missed }
    if Config.mostMissing ≤ missed then s1.loseSession
    else if e.overSentFrames then s1.loseSession
    else match s1.yieldReason e with
      | some reason => s1.sendClear reason
      | none => s1.buildVolley

/-! ### Records that leave SENDING (R86, R95) -/

/-- The record stops being the message in progress and is owed a TEXT-ABORT, if its TEXT-END has not been built; the flag
says whether a withdrawal owes it (R11, R86). -/
def Session.abortIfOpen (n : Nat) (withdrawn : Bool) (e : Session) : Session :=
  match e.outMsg with
  | some (m, _) => if m = n then { e with outMsg := none, aborts := e.aborts ++ [(n, withdrawn)] } else e
  | none => e

/-- The records below URGENCY that are SENDING to a station (R30, R95). -/
def State.heldBack (s : State) (number : Nat) : List Nat :=
  s.numbersWhere fun r =>
    r.dir == .outbound && r.state == .sending && r.peer == number && decide (Prec.urgency.code < r.prec.code)

/-- Records leave a session under a hold: the message in progress stops and is owed a TEXT-ABORT; of a record whose TEXT-END is
in flight the acknowledgement changes no record any more, and it waits for a later session (R86, R95). -/
def Session.part (back : List Nat) (e : Session) : Session :=
  { e with
    outMsg := e.outMsg.filter fun m => !back.contains m.1
    aborts := e.aborts ++ ((e.outMsg.filter fun m => back.contains m.1).map fun m => (m.1, false)).toList
    inFlight := e.inFlight.map fun f => if f.ends.any back.contains then { f with ends := none } else f
    later := e.later ++ (e.inFlight.filterMap (·.ends)).filter back.contains }

/-- The directory tells the engine that a hold was set: records return to QUEUED without an attempt counted (R30, R95). -/
def State.holdSet (s : State) (number : Nat) : State :=
  let back := s.heldBack number
  { s with
    store.recs := s.store.recs.map fun e => if back.contains e.1 then (e.1, { e.2 with state := .queued }) else e
    link.session := s.link.session.map (Session.part back) }

/-- A shore-hold of the session's peer is cleared in the ship's sending turn: records below URGENCY wait for its next one
(R108). -/
def State.holdTurn (s : State) (number : Nat) : State :=
  if s.link.state = .sending then
    s.updSession fun e => if e.peer = number then { e with heldTurn := true } else e
  else s

/-- The shore-hold of a station takes a value: HOLD-CHANGED when it changes, and what a setting or a clearing brings about
(R30, R75, R95, R108). -/
def State.setShoreHold (s : State) (number : Nat) (v : Bool) : State :=
  match s.stationOf number with
  | none => s
  | some st =>
    if st.shoreHold = v then s
    else
      let s1 := (s.updStation number fun t => { t with shoreHold := v }).raiseHolds number
      if v then s1.holdSet number else (s1.holdTurn number).post .dueTest

/-- The console-hold of a station takes a value (R30). -/
def State.setConsoleHold (s : State) (number : Nat) (v : Bool) : State :=
  match s.stationOf number with
  | none => s
  | some st =>
    if st.consoleHold = v then s
    else
      let s1 := (s.updStation number fun t => { t with consoleHold := v }).raiseHolds number
      if v then s1.holdSet number else s1.post .dueTest

/-- A WITHDRAW of a SENDING record (R11, R18, R86). -/
def State.withdrawSending (s : State) (n : Nat) : State :=
  (s.updRecord n fun r => { r with withdrawPending := true }).updSession (Session.abortIfOpen n true)

end Sys2Proof.Machine
end

