-- ==== Sys2Proof/Machine/Round.lean ====
section
/-! DEFINITION. Call rounds and attempts (R57, R77 to R79), the answers to the part's call (R78), and calls addressed to the
ship (R58, R80 to R82). -/

namespace Sys2Proof.Machine

/-! ### Attempts (R77, R78) -/

/-- The purpose of a CALL (R57). -/
def State.callPurpose (s : State) (number : Nat) : Purpose :=
  if s.answerOwed number then .pollAnswer
  else if (s.firstFor number).any fun r => r.2.cls == .report then .report
  else .traffic

/-- The waiting count of a CALL, at most 255 (R57). -/
def State.waitingCount (s : State) (number : Nat) : Nat := min (s.sendables number (s.floor number)).length 255

/-- The ship number of a round's CALLs: the one that its first CALL used, else the present one (R205, log entry 37). -/
def State.shipOf (s : State) (r : Round) : Nat := r.ship.getD s.settings.identity.number

/-- A CALL burst is sent; at the first of the attempt the CALL-OUT entry is written and the station is engaged (R29, R78). -/
def State.sendCall (s : State) (r : Round) : State :=
  let (s1, entry) :=
    match r.entry with
    | some n => (s, n)
    | none => (s.logWrite .callOut r.station r.channel, s.log.next)
  let called : Round :=
    { r with
      phase := .calling, entry := some entry, calls := r.calls + 1, listen := none, engaged := true
      ship := some (s.shipOf r) }
  { s1 with link.round := some called }.sendBurst
    (.call r.station (s.shipOf r) (s.callPurpose r.station) (s.waitingCount r.station))

/-- An attempt begins on a channel: the main transceiver is tuned to it (R78). -/
def State.beginAttempt (s : State) (r : Round) (ch : Nat) : State :=
  let tuning : Round :=
    { r with phase := .tuning, channel := ch, left := r.left - 1, entry := none, calls := 0, listen := none }
  { s with link.round := some tuning }.tuneMain ch .call

/-- After an attempt without a session: the round fails after the last; it ends without failure when the station is no
longer due, and as failed when no channel remains; otherwise the next attempt begins (R78, R79). -/
def State.nextAttempt (s : State) (r : Round) : State :=
  if r.left = 0 then s.failRound r
  else match s.stationOf r.station with
    | none => s.releaseToIdle
    | some st =>
      if !s.wanted st then s.releaseToIdle
      else match s.callChannel st with
        | none => s.failRound r
        | some ch => s.beginAttempt r ch

/-- The channel of an entry written for a call that is not made: R39's choice, or the first of the list (R77). -/
def State.nominalChannel (s : State) (st : Station) : Nat := ((s.callChannel st).or st.cfg.channels.head?).getD 0

/-- The class 4 claim is granted (R77). -/
def State.callGranted (s : State) : State :=
  match s.link.round with
  | none => s.releaseToIdle
  | some r =>
    match s.stationOf r.station with
    | none => s.releaseToIdle
    | some st =>
      let s1 := s.updStation r.station Station.callOpen
      match s.callChannel st with
      | some ch => s1.beginAttempt r ch
      | none =>
        ((s1.logMoment .callOut r.station (s.nominalChannel st) .noChannel).updStation r.station fun t =>
          { t with noChannel := true }).releaseToIdle

/-- The class 4 claim is refused because the main transceiver is out of service (R77, R79). -/
def State.callRefused (s : State) : State :=
  match s.link.round with
  | none => s
  | some r =>
    let ch := (s.stationOf r.station).elim 0 s.nominalChannel
    ((s.logMoment .callOut r.station ch .radioFault).backOff r.station).toIdle

/-- The tune of an attempt has ended (R78). -/
def State.callTuned (s : State) (ready outOfService : Bool) : State :=
  match s.link.round with
  | none => s
  | some r =>
    if r.phase ≠ .tuning then s
    else if ready then s.sendCall r
    else
      let s1 := s.logMoment .callOut r.station r.channel .radioFault
      if outOfService then s1.failRound r else s1.nextAttempt r

/-- A CALL burst has ended: the listen window is armed (R78). -/
def State.callSent (s : State) : State :=
  { s with link.round := s.link.round.map fun r =>
      if r.phase = .calling then { r with listen := some (s.after Config.listenWindow) } else r }

/-- A listen window expires unanswered: the next CALL, or the attempt ends UNANSWERED (R35, R37, R78). What follows the last
window does not wait for a REJECT on the air (model choice beside R195, log entry 48). -/
def State.listenExpired (s : State) : State :=
  match s.link.round with
  | none => s
  | some r =>
    if r.calls < Config.callsPerAttempt then s.sendCall r
    else
      (((s.closeAttempt r .unanswered).sample r.channel 0).updChannel r.channel fun c =>
        { c with lastFail := some s.time.now }).nextAttempt r

/-- The round in a listen window of its call, if the engine is in one (R56). -/
def State.listeningRound (s : State) : Option Round :=
  s.link.round.filter fun r => r.phase == .calling && r.listen.isSome

/-- The burst answers the part's call, under the ship number that the call used (R58, R205). -/
def State.answersCall (s : State) (r : Round) (station ship : Nat) : Bool :=
  r.station == station && ship == s.shipOf r

/-- An ACCEPT that answers the call: the attempt ends COMPLETE and a session opens in SENDING (R78, R83). -/
def State.hearAccept (s : State) (station ship : Nat) : State :=
  match s.listeningRound with
  | none => s
  | some r =>
    if !s.answersCall r station ship then s
    else match ((s.closeAttempt r .complete).sample r.channel 1000).raiseToSession with
      | some s1 => (s1.openSession r.station r.channel .sending).buildVolley
      | none => s

/-- A REJECT that answers the call: the attempt ends REJECTED and the round as failed (R78, R79). -/
def State.hearReject (s : State) (station ship : Nat) : State :=
  match s.listeningRound with
  | none => s
  | some r =>
    if s.answersCall r station ship then
      ((s.closeAttempt r .rejected).sample r.channel 1000).failRound r
    else s

/-! ### Calls addressed to the ship (R58, R80 to R82) -/

/-- Why a call is rejected before any raise is asked: UNKNOWN, then SILENCE (R58). -/
def State.rejection (s : State) (station : Nat) : Option RejectReason :=
  if !s.knows station then some .unknown else if s.silencedFor station then some .silence else none

/-- REJECT is sent: the CALL-IN entry is written and completed with REJECTED (R80, R81). -/
def State.rejectCall (s : State) (station channel : Nat) (reason : RejectReason) : State :=
  (s.logMoment .callIn station channel .rejected).sendBurst (.reject station s.settings.identity.number reason)

/-- ACCEPT is sent under a class 3 hold, and the engine enters AWAIT-FIRST (R80 to R82). -/
def State.acceptCall (s : State) (station channel : Nat) : State :=
  { s.logWrite .callIn station channel with
    link.state := .awaitFirst, link.round := none, link.watchChannel := none
    link.await := some { station, channel, entry := s.log.next, wait := none, ending := false } }.sendBurst
    (.accept station s.settings.identity.number)

/-- A call heard on the call watch (R81). -/
def State.callOnWatch (s : State) (station channel : Nat) : State :=
  match s.rejection station with
  | some reason => s.rejectCall station channel reason
  | none =>
    match s.raiseToSession with
    | some s1 => s1.acceptCall station channel
    | none => s.rejectCall station channel .busy

/-- A call heard in a listen window of the engine's own attempt (R80). -/
def State.callInWindow (s : State) (r : Round) (station : Nat) : State :=
  match s.rejection station with
  | some reason => s.rejectCall station r.channel reason
  | none =>
    match s.raiseToSession with
    | some s1 => (s1.closeAttempt r .superseded).acceptCall station r.channel
    | none => s.rejectCall station r.channel .busy

/-- A call heard in AWAIT-FIRST supersedes the session in waiting; after a REJECT the engine releases when the burst has
ended (R82, R187). -/
def State.callInAwait (s : State) (w : Await) (station : Nat) : State :=
  let s1 := s.logComplete w.entry .superseded
  match s1.rejection station with
  | some reason =>
    (({ s1 with link.await := some { w with wait := none, ending := true } }).rejectCall station w.channel reason)
  | none => s1.acceptCall station w.channel

/-- A good CALL on the main path (R56, R57, R80 to R82). -/
def State.hearCall (s : State) (station ship : Nat) : State :=
  if ship ≠ s.settings.identity.number then s
  else match s.link.state with
    | .idle => if s.listensWatch then s.callOnWatch station (s.link.watchChannel.getD 0) else s
    | .calling =>
      match s.listeningRound with
      | some r => s.callInWindow r station
      | none => s
    | .awaitFirst =>
      match s.link.await with
      | some w => if w.ending then s else s.callInAwait w station
      | none => s
    | .sending | .receiving | .clearing => s

/-- An ACCEPT has gone out: the AWAIT-FIRST wait is armed (R82). -/
def State.acceptSent (s : State) : State :=
  { s with link.await := s.link.await.map fun w =>
      if w.ending then w else { w with wait := some (s.after Config.awaitFirstWait) } }

/-- A REJECT has gone out: a session in waiting that it ended is released (R82). -/
def State.rejectSent (s : State) : State :=
  match s.link.await with
  | some w => if w.ending then s.releaseToIdle else s
  | none => s

/-- The AWAIT-FIRST wait expires: the CALL-IN entry is LOST (R82). -/
def State.awaitExpired (s : State) : State :=
  match s.link.await with
  | none => s
  | some w => (s.logComplete w.entry .lost).releaseToIdle

/-- A yield asked of a session in waiting for a MUST broadcast drops it at once (R96). -/
def State.yieldInAwait (s : State) : State :=
  match s.link.await with
  | some w => if w.ending then s else (s.logComplete w.entry .preEmpted).releaseToIdle
  | none => s

/-- Due test of the engine's waiting choice: a claim whose station is no longer due is withdrawn (R77). -/
def State.staleChoice (s : State) : Bool :=
  s.link.round.any fun r => r.phase == .claiming && !(s.stationOf r.station).any s.due

end Sys2Proof.Machine
end

