-- ==== Sys2Proof/Machine/Directives.lean ====
section
/-! DEFINITION. The directive handler: deciding a directive (R99 to R103), answers (R104 to R107), effects (R108 to R116) and
the check of collective directives (R67). -/

namespace Sys2Proof.Machine

/-! ### Deciding (R100) -/

/-- A directive as handed over: its code, argument bytes, addressing, sending station, and the channel it was heard on
(R99, R102). `used` is the used length of an individual directive's frame. -/
structure Order where
  code       : Nat
  args       : List Byte
  used       : Nat
  addressing : Addressing
  sender     : Nat
  channel    : Nat
  deriving DecidableEq, Repr

/-- A directive's length with its code (11.2). -/
def directiveLength (code : Nat) : Nat :=
  match code with
  | 6 => 3
  | 7 => 6
  | 8 => 2
  | 10 => 4
  | _ => 1

/-- The argument of `k` bytes after the first `skip` (11.2). -/
def Order.arg (o : Order) (skip k : Nat) : Nat := natOfBytes ((o.args.drop skip).take k)

/-- The ranges of ship and station numbers (00_scope.md, Identities). -/
def shipInRange (n : Nat) : Bool := decide (1000000 ≤ n) && decide (n ≤ 9999999)
def stationInRange (n : Nat) : Bool := decide (10000 ≤ n) && decide (n ≤ 99999)

/-- Check 1 of R100: malformed. -/
def Order.malformed (o : Order) : Bool :=
  decide (o.code = 0) || decide (13 ≤ o.code) ||
    (o.addressing == .individual && decide (o.used < directiveLength o.code)) ||
    (o.code == 6 && o.arg 0 2 == 0) || (o.code == 7 && decide (2 ≤ o.arg 4 1)) ||
    (o.code == 10 && !(shipInRange (o.arg 0 3)))

/-- The directives that need an answer (5.1). -/
def needsAnswer (code : Nat) : Bool := code == 1 || code == 2 || code == 12

/-- The cell of the acceptance table (R103). -/
def State.cell (s : State) (a : Addressing) (code : Nat) : Acceptance :=
  (match a with
    | .individual => s.handler.individual
    | .collective => s.handler.collective).getD code .refuse

/-- A RECEIPT that is accepted: a REPORT of the sending station in DELIVERED or CONFIRMED (R111). -/
def State.receiptFits (s : State) (n sender : Nat) : Bool :=
  (s.record n).any fun r =>
    r.cls == .report && r.peer == sender && (r.state == .delivered || r.state == .confirmed)

/-- Check 4 of R100: the directive's own conditions (R107, R109, R110, R111, R115). -/
def State.conditions (s : State) (o : Order) : Bool :=
  match o.code with
  | 2 => s.handler.last.any fun a => a.station == o.sender
  | 5 => s.authority == some o.sender
  | 6 => s.receiptFits (o.arg 0 2) o.sender
  | 9 => o.addressing == .collective || s.handler.silence.all fun q => q.imposer == o.sender
  | 11 => s.knows o.sender
  | _ => true

/-- The outcome of a directive (R100). -/
def State.verdict (s : State) (o : Order) : Verdict :=
  if o.malformed then .refused
  else if o.addressing = .collective ∧ needsAnswer o.code then .refused
  else match s.cell o.addressing o.code with
    | .ignore => .ignored
    | .refuse => .refused
    | .accept => if s.conditions o then .accepted else .refused

/-! ### Answers (R104 to R107) -/

/-- An answer is made for a station: the serial rises, and any earlier last answer is replaced (R104). -/
def State.makeAnswer (s : State) (station : Nat) (record : AnswerRecord) : State :=
  let serial := s.handler.serial + 1
  { s with handler.serial := serial, handler.last := some { station, record, serial, owed := true } }

/-- The records in QUEUED, to any station (R105). -/
def State.queuedCount (s : State) : Nat := (s.numbersWhere fun r => r.state == .queued).length

/-- The species in a quota state (R105). -/
def State.speciesIn (s : State) (q : QuotaState) : Nat := (s.catch_.species.filter fun e => e.2.state == q).length

/-- The STATUS record of the present state (R105). -/
def State.statusRecord (s : State) : AnswerRecord :=
  let (lat, lon, fixTime, stale) := s.sentFix
  .status s.settings.identity.number s.time.now lat lon fixTime stale s.time.source s.freePages s.queuedCount
    s.distress.state (s.speciesIn .near) (s.speciesIn .reached)

/-- The IDENTITY record of the ship identity (R106). -/
def State.identityRecord (s : State) : AnswerRecord :=
  .identity s.settings.identity.number s.settings.identity.name s.settings.identity.callSign

/-- An accepted REPEAT-LAST (R107). -/
def State.repeatLast (s : State) : State :=
  match s.handler.last with
  | none => s
  | some a => if a.owed then s else s.makeAnswer a.station a.record

/-! ### Effects (R108 to R116) -/

/-- HOLD-TRAFFIC and RELEASE-TRAFFIC: on the sender, or on every loaded entry, in ascending entry order
(R108; model choice, log entry 40). -/
def State.shoreHolds (s : State) (o : Order) (v : Bool) : State :=
  match o.addressing with
  | .individual => s.setShoreHold o.sender v
  | .collective => (s.dir.stations.map (·.2.cfg.number)).foldl (fun t n => t.setShoreHold n v) s

/-- RESET-LINK-STATE (R109). -/
def State.resetLink (s : State) (number : Nat) : State :=
  match s.stationOf number with
  | none => s
  | some st =>
    let s1 := s.setShoreHold number false
    let s2 := { s1 with handler.last := s1.handler.last.filter fun a => a.station != number }
    let s3 := st.cfg.channels.foldl (fun t n => t.updChannel n fun c => { c with q := Config.startQ }) s2
    (s3.updStation number fun t => { t.callOpen with k := 0, noChannel := false }).post .dueTest

/-- SET-CLOCK: PRECISE is loaded, APPROXIMATE while the source is UNSET (R44, R112). -/
def State.setClock (s : State) (value : Time) (precise : Bool) : State :=
  if precise ∨ s.time.source = .unset then s.loadClock value .coast else s

/-- SILENCE is imposed or renewed (R113); a session in its clearing wait yields at once (R96), and the floor of a new
imposing station may fall (R74, R75). -/
def State.imposeSilence (s : State) (sender minutes : Nat) : State :=
  let endTime := s.after (min (max minutes 1) 120 * 60)
  let cause : SilenceCause := if s.handler.silence.isSome then .renewed else .imposed
  (({ s with handler.silence := some { imposer := sender, endTime } }.raise
    (.silence true (some sender) (some endTime) cause)).yieldInClearing).post .dueTest

/-- Silence ends: the notice carries no end time (R114, R115; model choice, log entry 40). -/
def State.endSilence (s : State) (cause : SilenceCause) : State :=
  match s.handler.silence with
  | none => s
  | some _ => ({ s with handler.silence := none }.raise (.silence false none none cause)).post .dueTest

/-- DISTRESS-ACK: the own alert or another ship's (R116). -/
def State.distressAck (s : State) (o : Order) : State :=
  let ship := o.arg 0 3
  if ship = s.settings.identity.number then s.acknowledgeOwn o.sender o.channel else s.acknowledgeOther ship

/-- RECEIPT: a DELIVERED report is confirmed; a CONFIRMED one stays (R111). -/
def State.receipt (s : State) (n : Nat) : State :=
  if (s.record n).any fun r => r.state == .delivered then s.confirmReport n else s

/-- The effect of an accepted directive. -/
def State.obey (s : State) (o : Order) : State :=
  match o.code with
  | 1 => s.makeAnswer o.sender s.statusRecord
  | 2 => s.repeatLast
  | 3 => s.shoreHolds o true
  | 4 => s.shoreHolds o false
  | 5 => (s.trigger .poll).1
  | 6 => s.receipt (o.arg 0 2)
  | 7 => s.setClock (BitVec.ofNat 32 (o.arg 0 4)) (o.arg 4 1 == 0)
  | 8 => s.imposeSilence o.sender (o.arg 0 1)
  | 9 => s.endSilence .ended
  | 10 => s.distressAck o
  | 11 => s.resetLink o.sender
  | 12 => s.makeAnswer o.sender s.identityRecord
  | _ => s

/-- A collective directive's entry, written and completed before its effect (R102). -/
def State.logDirective (s : State) (o : Order) (v : Verdict) : State :=
  match v with
  | .ignored => s
  | .refused => s.logMoment .collectiveDirective o.sender o.channel .refused
  | .accepted =>
    s.logMoment .collectiveDirective o.sender o.channel .complete (if o.code = 6 then some (o.arg 0 2) else none)

/-- A directive is handed over (R99 to R102). -/
def State.takeDirective (s : State) (o : Order) : State × Verdict :=
  let v := s.verdict o
  let s1 := if o.addressing = .collective then s.logDirective o v else s
  (if v = .accepted then s1.obey o else s1, v)

/-! ### The collective directive check (R67) -/

/-- A list of the last eight pairs (R67). -/
def lastEight (l : List (Nat × Half)) (p : Nat × Half) : List (Nat × Half) :=
  (if 8 ≤ l.length then l.tail else l) ++ [p]

/-- The address matches: ALL, AREA n in the area set or with the set unknown, SHIP n the ship's own (R67). -/
def State.addressMatches (s : State) (kind value : Nat) : Bool :=
  match kind with
  | 0 => true
  | 1 => decide (1 ≤ value) && decide (value ≤ 32) && s.time.areaSet.all fun l => l.contains value
  | 2 => value == s.settings.identity.number
  | _ => false

/-- The address value: the ship number for SHIP, the area number in the last byte for AREA (11.2). -/
def addressValue (kind : Nat) (field : List Byte) : Nat :=
  if kind = 1 then natOfBytes (field.drop 2) else natOfBytes field

/-- A good collective directive heard on a path (R67). -/
def State.checkDirective (s : State) (p : Path) (c : RxCollective) : State :=
  let pair := (c.station, c.frame)
  let kind := natOfBytes ((c.payload.drop 1).take 1)
  let value := addressValue kind ((c.payload.drop 2).take 3)
  if s.handler.recent.contains pair || !(s.addressMatches kind value) then s
  else
    ({ s with handler.recent := lastEight s.handler.recent pair }.takeDirective
      { code := natOfBytes (c.payload.take 1), args := c.payload.drop 5, used := c.payload.length
        addressing := .collective, sender := c.station, channel := s.pathChannel p }).1

end Sys2Proof.Machine
end

