-- ==== Sys2Proof/Machine/Receive.lean ====
section
/-! DEFINITION. Volleys received: frames taken, messages assembled, tallies sent, missing volleys and the turn (R59 to R63,
R82, R90 to R93, R96). -/

namespace Sys2Proof.Machine

/-! ### Frames and messages (R60 to R62) -/

/-- A received frame is good: its check passed, its type is defined, its used length fits (R60). -/
def frameGood (payLen : Nat) (f : RxFrame) : Bool :=
  f.check && (FrameKind.ofCode f.kind).isSome && decide (f.used ≤ payLen)

/-- A message header as received (R62): sender's number, precedence, text length, when it is valid. -/
def headerOf (p : List Byte) : Option (Nat × Prec × Nat) :=
  let number := natOfBytes (p.take 2)
  let length := natOfBytes ((p.drop 4).take 2)
  match Prec.ofCode (natOfBytes ((p.drop 2).take 1)), Cls.ofCode (natOfBytes ((p.drop 3).take 1)) with
  | some prec, some .traffic =>
    if 6 ≤ p.length ∧ number ≠ 0 ∧ 1 ≤ length ∧ length ≤ Config.textBytes then some (number, prec, length) else none
  | _, _ => none

/-- The permission that a precedence gives an inbound message (R2). -/
def Prec.permission : Prec → Permission
  | .distress | .urgency => .reserve
  | .safety | .report | .routine => .ordinary

/-- Text joins the inbound message in progress, up to its announced length (R62, R70). -/
def State.writeText (s : State) (n : Nat) (t : List Byte) : State :=
  let s1 := s.updRecord n fun r => { r with text := (r.text ++ t.map airByte).take r.textLen }
  s1.updSession fun e => { e with inMsg := some (n, (s1.record n).elim 0 (·.text.length)) }

/-- The inbound message in progress ends at TEXT-END: STORED when it is whole, freed otherwise (R62). -/
def State.endText (s : State) (n : Nat) : State :=
  let s1 := s.updSession fun e => { e with inMsg := none }
  match s.record n with
  | none => s1
  | some r =>
    if r.text.length = r.textLen then
      ((s1.updRecord n fun r => { r with state := .stored }).raise (.newMessage n)).updSession fun e =>
        { e with lastMsg := some n, stored := e.stored + 1 }
    else s1.freeRecord n

/-- The text of a TEXT or TEXT-END frame of a message in progress. -/
def State.takeText (s : State) (n : Nat) (t : List Byte) (last : Bool) : State :=
  let s1 := s.writeText n t
  if last then s1.endText n else s1

/-- The RECEIVING record that a valid header asks for (R62). -/
def inboundRecord (now : Time) (peer number : Nat) (prec : Prec) (length : Nat) : MsgRec :=
  { MsgRec.new now .traffic .inbound prec .receiving .air peer with peerRef := some number, textLen := length }

/-- What the taking of a volley's frames has gathered: the marks, the flags of the tally, and an invalid header. -/
structure Taking where
  marks   : List Bool
  refused : Bool
  full    : Bool
  invalid : Bool
  deriving DecidableEq, Repr

/-- A frame is taken: next expected rises and it is marked received (R60). -/
def State.advance (s : State) : State := s.updSession fun e => { e with inNext := e.inNext + 1 }

def Taking.mark (b : Bool) (k : Taking) : Taking := { k with marks := k.marks ++ [b] }

/-- The first frame of a message (R62). -/
def State.takeFirst (s : State) (e : Session) (payload : List Byte) (last : Bool) (k : Taking) : State × Taking :=
  match headerOf payload with
  | none => (s, { k with invalid := true })
  | some (number, prec, length) =>
    match s.allocText prec.permission (inboundRecord s.time.now e.peer number prec length) with
    | (none, s1) => (s1, { k with full := true }.mark false)
    | (some n, s1) => ((s1.advance).takeText n (payload.drop 6) last, k.mark true)

/-- A good frame at the next expected number is handed on by its type (R61). -/
def State.handFrame (s : State) (e : Session) (kind : FrameKind) (payload : List Byte) (k : Taking) : State × Taking :=
  match kind with
  | .text | .textEnd =>
    match e.inMsg with
    | some (n, _) => (s.advance.takeText n payload (kind == .textEnd), k.mark true)
    | none => s.takeFirst e payload (kind == .textEnd) k
  | .textAbort =>
    match e.inMsg with
    | some (n, _) => ((s.advance.freeRecord n).updSession fun e => { e with inMsg := none }, k.mark true)
    | none => (s.advance, k.mark true)
  | .directive =>
    let (s1, v) := s.advance.takeDirective
      { code := natOfBytes (payload.take 1), args := payload.drop 1, used := payload.length, addressing := .individual
        sender := e.peer, channel := e.channel }
    (s1, { k with refused := k.refused || v == Verdict.refused }.mark true)
  | .answer | .empty => (s.advance, k.mark true)

/-- One frame of a volley, in volley order (R60); nothing is taken after an invalid header (R62). -/
def State.takeFrame (payLen : Nat) (acc : State × Taking) (f : RxFrame) : State × Taking :=
  let (s, k) := acc
  if k.invalid then acc
  else match s.link.session, FrameKind.ofCode f.kind with
    | some e, some kind =>
      if !(frameGood payLen f) then (s, k.mark false)
      else
        let d := (f.seq - e.inNext).toNat
        if d = 0 then s.handFrame e kind (f.payload.take f.used) k else (s, k.mark (decide (8 ≤ d)))
    | _, _ => (s, k.mark false)

/-! ### Tallies sent (R63, R91 to R93) -/

/-- A tally is sent and kept as the last one (R91). -/
def State.sendTally (s : State) (t : TxTally) (after : AfterTally) : State :=
  (s.updSession fun e => { e with lastTally := some t, after }).sendBurst (.tally t)

/-- A QUEUED record of URGENCY or DISTRESS precedence may be sent to the peer (R63, R93). -/
def State.urgentTraffic (s : State) (number : Nat) : Bool :=
  (s.firstFor number).any fun r => decide (r.2.prec.code ≤ Prec.urgency.code)

/-- The tally for a volley whose frames have been taken, and what follows it (R63, R93). TURN-GRANT is set by R93's test alone,
also when a yield is pending and a CLEAR will follow the tally in place of the turn (R96; model choice, log entry 64). -/
def State.answerVolley (s : State) (isOver : Bool) (k : Taking) : State :=
  match s.link.session with
  | none => s
  | some e =>
    let ends := isOver && k.marks.all id
    let traffic := s.hasTraffic e
    s.sendTally
      { marks := k.marks, next := e.inNext, turnGrant := ends && traffic, turnRequest := s.urgentTraffic e.peer,
        refused := k.refused, answerWaiting := s.answerToBuild e, storeFull := k.full }
      (if !ends then .listen else if traffic then .takeTurn else .clearDone)

/-- A tally with all marks clear, the next expected number and no flags (R92). -/
def blankTally (next : BitVec 4) : TxTally :=
  { marks := [], next, turnGrant := false, turnRequest := false, refused := false, answerWaiting := false,
    storeFull := false }

/-- The last tally is sent again, or a blank one when none has been sent (R91, R92). -/
def State.repeatTally (s : State) : State :=
  match s.link.session with
  | none => s
  | some e => s.sendTally (e.lastTally.getD (blankTally e.inNext)) .listen

/-- A missing volley: sample 0, LOST at the third in a row (R92). The flag says whether a volley arrived: without one, the
expiry is the boundary of a pending yield (R96). -/
def State.volleyMissed (s : State) (arrived : Bool) : State :=
  match s.link.session with
  | none => s
  | some e =>
    let missed := e.missVolleys + 1
    let s1 := (s.sample e.channel 0).updSession fun e =>
      { e with receiveWin := none, clearWait := none, missVolleys := missed }
    if Config.mostMissing ≤ missed then s1.loseSession
    else match (if arrived then none else s1.yieldReason e) with
      | some reason => s1.sendClear reason
      | none => s1.repeatTally

/-- A volley with a good header is taken (R59, R91). -/
def State.goodVolley (s : State) (e : Session) (h : RxHeader) (frames : List RxFrame) : State :=
  let payLen := (payloadBytes h.code).getD 0
  let taken := frames.take h.count
  let good := (taken.filter (frameGood payLen)).length
  let s1 := (s.sample e.channel (perMille good h.count)).updSession fun e =>
    { e with receiveWin := none, clearWait := none, missVolleys := 0, kept := some h.counter }
  if e.kept = some h.counter then s1.repeatTally
  else
    let (s2, k) := taken.foldl (State.takeFrame payLen) (s1, { marks := [], refused := false, full := false, invalid := false })
    if k.invalid then s2.sendClear .error else s2.answerVolley h.isOver k

/-- A volley in a session in RECEIVING. -/
def State.takeVolley (s : State) (h : RxHeader) (frames : List RxFrame) : State :=
  match s.link.session with
  | none => s
  | some e => if h.good then s.goodVolley e h frames else s.volleyMissed true

/-- A VOLLEY on the main path: the first volley of AWAIT-FIRST opens the session; RECEIVING takes it in its window, and the
clearing wait gives it the sending side (R56, R82, R90, R91). In SENDING, of which no rule speaks, it is discarded (model
choice, log entry 55). -/
def State.hearVolley (s : State) (h : RxHeader) (frames : List RxFrame) : State :=
  match s.link.state with
  | .awaitFirst =>
    match s.link.await with
    | some w =>
      if w.ending then s
      else ((s.logComplete w.entry .complete).openSession w.station w.channel .receiving).takeVolley h frames
    | none => s
  | .receiving => if s.link.session.any (·.receiveWin.isSome) then s.takeVolley h frames else s
  | .clearing =>
    if s.link.session.any (·.clearWait.isSome) then { s with link.state := .receiving }.takeVolley h frames else s
  | .idle | .calling | .sending => s

/-- A CLEAR on the main path ends a session; in AWAIT-FIRST it is discarded (R64, R82). -/
def State.hearClear (s : State) (reason : ClearReason) : State :=
  match s.link.session with
  | some _ => s.clearReceived reason
  | none => s

/-- A tally has gone out: a pending yield comes first, unless the peer's turn has ended the session; then the turn, the
CLEAR, or the receive window (R91, R93, R96; that CLEAR DONE goes before the yield is the model's choice, log entry 47). The end
of a tally sent again after a receive window has expired is a boundary too: a yield that arrives while that tally is on the air
takes effect there (model choice, log entry 71). -/
def State.tallySent (s : State) : State :=
  match s.link.session with
  | none => s
  | some e =>
    match e.after with
    | .clearDone => s.sendClear .done
    | .takeTurn | .listen =>
      match s.yieldReason e with
      | some reason => s.sendClear reason
      | none =>
        if e.after = .takeTurn then s.takeTurn
        else s.updSession fun e => { e with receiveWin := some (s.after Config.receiveWindow) }

end Sys2Proof.Machine
end

