-- ==== Sys2Proof/Machine/Cascade.lean ====
section
/-! DEFINITION. How the blocks take each other's messages inside one event (R184, R187, R191), and what the link engine does
of its own accord when no message is left (R72, R77). -/

namespace Sys2Proof.Machine

/-- The link engine is in a session or in a session in waiting. -/
def State.inSession (s : State) : Bool := s.link.state != .idle && s.link.state != .calling

/-- GRANTED (R191). -/
def State.onGranted (s : State) (c : Claim) : State :=
  if !s.holds_ c then s
  else match c with
    | .watch => s.chooseWatch
    | .call => s.callGranted
    | .must _ | .optional _ => s.windowGranted c
    | .session | .distress => s

/-- REFUSED (R191): a refused call watch waits for BACK-IN-SERVICE (R72). -/
def State.onRefused (s : State) (c : Claim) : State :=
  match c with
  | .call => if s.link.state = .calling then s.callRefused else s
  | .must _ | .optional _ => s.windowRefused c
  | .watch | .session | .distress => s

/-- REVOKED (R191, R193): each claimant acts on the claim it has lost. -/
def State.onRevoked (s : State) (c : Claim) (cause : RevokeCause) : State :=
  match c with
  | .watch => if s.link.state = .idle then s.linkRevoked cause else s
  | .call => if s.link.state = .calling then s.linkRevoked cause else s
  | .session => if s.inSession then s.linkRevoked cause else s
  | .must _ | .optional _ => s.windowRevoked c cause
  | .distress => s

/-- YIELD-ASKED (R96, R194): a session in waiting is dropped, a clearing wait is cut short, any other session yields at its
next boundary. -/
def State.onYieldAsked (s : State) : State :=
  if !s.arb.yieldAsked then s else if s.link.state = .awaitFirst then s.yieldInAwait else s.yieldInClearing

/-- HIGHER-WAITING (R72, R192). -/
def State.onHigherWaiting (s : State) : State := if s.link.state = .idle then s.giveWay else s

/-- BACK-IN-SERVICE (R197). -/
def State.onBackInService (s : State) : State := if s.link.state = .idle then s.claimWatch.dueTest else s

/-- The call watch's tune has ended: after a FAULT the engine listens nowhere until the next choice (R72). -/
def State.watchTuned (s : State) (ready : Bool) : State :=
  if ready || s.main.flight.isSome then s else { s with link.watchChannel := none }

/-- The result of a tune, for the holder that asked for it (R184). -/
def State.onTuned (s : State) (c : Claim) (ready outOfService : Bool) : State :=
  if !s.holds_ c then s
  else match c with
    | .watch => s.watchTuned ready
    | .call => s.callTuned ready outOfService
    | .must _ | .optional _ => s.windowTuned c ready
    | .distress => s.alertTuned ready
    | .session => s

/-- The holder is told that its burst has ended (R187). -/
def State.onBurstEnded (s : State) (b : Burst) : State :=
  match b with
  | .call .. => s.callSent
  | .accept .. => s.acceptSent
  | .reject .. => s.rejectSent
  | .volley .. => s.volleySent
  | .tally _ => s.tallySent
  | .clear reason => s.clearSent reason
  | .alert _ => s.alertSent

/-- A message is taken by its block. -/
def State.handle (s : State) (m : Msg) : State :=
  match m with
  | .granted c => s.onGranted c
  | .refused c => s.onRefused c
  | .revoked c cause => s.onRevoked c cause
  | .yieldAsked => s.onYieldAsked
  | .higherWaiting => s.onHigherWaiting
  | .backInService => s.onBackInService
  | .tuned c ready outOfService => s.onTuned c ready outOfService
  | .radioOut => s.radioOutOfService
  | .burstEnded b => s.onBurstEnded b
  | .dueTest => s.dueTest

/-- What the engine does with no message left: it gives up a choice that is no longer due (R77), claims the call watch that
it should hold (R72, R97), or gives up one that it should not (R72). A test for due stations of the same event has then been
made (model choice, log entry 60). -/
def State.attend (s : State) : Option State :=
  if s.phase ≠ .running then none
  else if s.staleChoice then some (s.giveUp .call).toIdle
  else if s.wantsWatch && s.main.inService && !s.holds_ .watch && !s.waits .watch then some s.claimWatch
  else if s.link.state == .idle && s.watchEntry.isNone && (s.holds_ .watch || s.waits .watch) then
    some (s.giveUp .watch)
  else none

/-- Messages are worked off in the order of their sending, at most `k` of them (log entry 5). -/
def State.settle : Nat → State → State
  | 0, s => s
  | k + 1, s =>
    match s.msgs with
    | m :: rest => ({ s with msgs := rest }.handle m).settle k
    | [] =>
      match s.attend with
      | none => s
      | some t => t.settle k

/-- The blocks work off what an event has set going. -/
def State.work (s : State) : State := s.settle Config.messageBound

/-- An event whose effects reach other blocks. -/
def event (s : State) (f : State → State) : Result := localEvent s fun t => (f t).work

/-- A request whose effects reach other blocks. -/
def command (k : ReqKind) (r : Req) (s : State) (f : State → State × Answer) : Result :=
  requestWith State.work k r s f

end Sys2Proof.Machine
end

