-- ==== Sys2Proof/Machine/Image.lean ====
section
/-! DEFINITION. The serial memory: the settings image and its validity, the loads at power-on and at RESTART, and the ends of
writes (R160, R161, R210, R211). -/

namespace Sys2Proof.Machine

/-! ### The settings image (R210) -/

/-- The image of the working tables (R210, R211). -/
def State.imageCopy (s : State) : SettingsImage :=
  { identity := s.settings.identity
    stations := s.dir.stations.mapVals (·.cfg)
    channels := s.dir.channels.mapVals (·.cfg)
    schedule := s.bcast.schedule.mapVals (·.cfg)
    areas := s.time.areas
    species := s.catch_.species.mapVals (·.cfg)
    factors := s.catch_.factors
    individual := s.handler.individual
    collective := s.handler.collective
    maps := s.ports.map (·.map)
    choices := s.ports.map (·.choices)
    distressLevel := s.settings.distressLevel
    watchStation := s.link.watchStation
    watchAreas := s.time.watchAreas
    reportTime := s.catch_.reportTime }

/-- The values taken when the image is bad (R210). -/
def SettingsImage.default : SettingsImage :=
  { identity := Identity.default, stations := [], channels := [], schedule := [], areas := [], species := [],
    factors := [], individual := defaultIndividual, collective := defaultCollective, maps := ⟨0, 0, 0⟩
    choices := ⟨0xFFFF, 0xFFFF, 0xFFFF⟩, distressLevel := 3, watchStation := none, watchAreas := []
    reportTime := Config.defaultReportTime }

/-- Ranges of the fields of an area (R50). -/
def Area.good (a : Area) : Bool :=
  decide (a.name.length ≤ 12) && a.name.all isTelex && latInRange a.south && latInRange a.north && lonInRange a.west &&
    lonInRange a.east && decide (a.south < a.north) && a.west != a.east

def freqInRange (n : Nat) : Bool := decide (16000 ≤ n) && decide (n ≤ 300000)

def ChannelCfg.good (c : ChannelCfg) : Bool :=
  freqInRange c.tx && freqInRange c.rx && decide (c.startHour ≤ 23) && decide (c.endHour ≤ 23)

/-- A listed channel is loaded and not a distress channel (R27, R210). -/
def SettingsImage.lists (i : SettingsImage) (n : Nat) : Bool := (i.channels.find n).any fun c => c.use != .distress

def SettingsImage.stationGood (i : SettingsImage) (c : StationCfg) : Bool :=
  stationInRange c.number && decide (c.name.length ≤ 12) && c.name.all isTelex && !c.channels.isEmpty &&
    decide (c.channels.length ≤ Config.listChannels) && !(repeats c.channels) && c.channels.all i.lists &&
    decide (1 ≤ c.attempts) && decide (c.attempts ≤ 8)

def ScheduleCfg.good (c : ScheduleCfg) : Bool :=
  decide (1 ≤ c.station) && decide (c.station ≤ Config.stations) && decide (1 ≤ c.channel) &&
    decide (c.channel ≤ Config.channels) && decide (c.start ≤ 1439) && decide (1 ≤ c.duration) &&
    decide (c.duration ≤ 60)

def codeGood (c : List Byte) : Bool := c.length == 3 && c.all isCapital

def SpeciesCfg.good (c : SpeciesCfg) : Bool := codeGood c.code && decide (c.quota ≤ Config.mostKilograms)

def Factor.good (f : Factor) : Bool := codeGood f.code && decide (1000 ≤ f.factor) && decide (f.factor ≤ 9999)

/-- The entries of a table stand in ascending number (11.5), lie in 1 to its size, and each is good. -/
def tableGood {α : Type} (size : Nat) (good : α → Bool) (t : Table α) : Bool :=
  t.wf && t.all fun e => decide (1 ≤ e.1) && decide (e.1 ≤ size) && good e.2

/-- Every value of a list is held once. -/
def distinct {α : Type} [DecidableEq α] : List α → Bool
  | [] => true
  | a :: rest => !(rest.contains a) && distinct rest

def Identity.good (i : Identity) : Bool :=
  shipInRange i.number && decide (i.name.length ≤ 16) && i.name.all isTelex && decide (i.callSign.length ≤ 8) &&
    i.callSign.all isTelex

/-- An image whose CRC holds is good (R210): every value in range, channel lists sound, at most one AUTHORITY, at most six
distress channels. Values that R27, R138 and R140 hold unique, and the area bounds of R50, count among the ranges (model
choice, log entry 62). The acceptance cells that R103 fixes at REFUSE are not tested: an image that holds another value there
is loaded as it stands (model choice, log entry 65). Nor is the order of the factor entries tested (11.5; model choice, log
entry 70). -/
def SettingsImage.good (i : SettingsImage) : Bool :=
  i.identity.good && tableGood Config.stations i.stationGood i.stations &&
    tableGood Config.channels ChannelCfg.good i.channels && tableGood Config.scheduleEntries ScheduleCfg.good i.schedule &&
    tableGood Config.areas Area.good i.areas && tableGood Config.speciesEntries SpeciesCfg.good i.species &&
    i.factors.all Factor.good && decide (i.factors.length ≤ Config.factorEntries) &&
    distinct (i.stations.map (·.2.number)) && distinct (i.species.map (·.2.code)) &&
    distinct (i.factors.map fun f => (f.code, f.form)) &&
    decide ((i.stations.filter (·.2.authority)).length ≤ 1) &&
    decide ((i.channels.filter (·.2.use == .distress)).length ≤ Config.distressChannels) &&
    decide (i.distressLevel ≤ 3) && i.watchStation.all stationInRange &&
    i.watchAreas.all (fun n => decide (1 ≤ n) && decide (n ≤ Config.areas)) && decide (i.reportTime ≤ 1439)

/-- The image to be loaded, if it is good (R210). -/
def Settings.loadable (c : Settings) : Option SettingsImage := c.image.filter SettingsImage.good

/-! ### Loading (R27, R32, R117, R161, R210) -/

/-- A station entry as loaded: holds clear, next-call time absent, k kept for the same number in the same entry (R27). -/
def loadStation (old : Table Station) (n : Nat) (cfg : StationCfg) : Station :=
  let k := match old.find n with
    | some st => if st.cfg.number = cfg.number then st.k else 0
    | none => 0
  { cfg, shoreHold := false, consoleHold := false, k, nextCall := none, nextCallArmed := false, noChannel := false }

/-- A channel entry as loaded: what it has learned is kept with the same frequencies and use (R32). -/
def loadChannel (old : Table Channel) (n : Nat) (cfg : ChannelCfg) : Channel :=
  match old.find n with
  | some c =>
    if c.cfg.tx = cfg.tx ∧ c.cfg.rx = cfg.rx ∧ c.cfg.use = cfg.use then { c with cfg }
    else { cfg, q := Config.startQ, lastFail := none }
  | none => { cfg, q := Config.startQ, lastFail := none }

/-- A schedule entry as loaded: an entry that was there keeps its last-taken day (R117); a new one takes its latest
occurrence while the clock is set (R43, log entry 13). -/
def State.loadSchedule (s : State) (n : Nat) (cfg : ScheduleCfg) : Schedule :=
  match s.bcast.schedule.find n with
  | some e => { cfg, lastTaken := e.lastTaken }
  | none => { cfg, lastTaken := if s.time.source = .unset then none else some (latestDay s.time.now cfg.start) }

/-- A species entry as loaded: the state and flags of its code are kept (R161). -/
def State.loadSpecies (s : State) (cfg : SpeciesCfg) : Species :=
  match s.speciesOf cfg.code with
  | some (_, sp) => { sp with cfg }
  | none => { cfg, state := .none, nearRaised := false, reachedRaised := false }

/-- A table of loaded entries. -/
def Table.mapEntries {α β : Type} (f : Nat → α → β) (t : Table α) : Table β := t.map fun e => (e.1, f e.1 e.2)

/-- Every field of an image, or of the defaults, becomes the working value (R210); the PRNG is seeded from the loaded ship
number (R46), quota states are worked out afresh (R161), and the area set is worked out (R52). Factor entries go to their
places in the order of FACTOR-GET, in whatever order the image has them (R140; model choice, log entry 70). A failed load
begins the report of a defaulted identity, and no load ends it: SHIP-SET does (R205). -/
def State.applyImage (s : State) (i : SettingsImage) (good : Bool) : State :=
  { s with
    settings.identity := i.identity
    settings.defaulted := s.settings.defaulted || !good
    settings.distressLevel := i.distressLevel
    settings.loadGood := good
    dir.stations := i.stations.mapEntries (loadStation s.dir.stations)
    dir.channels := i.channels.mapEntries (loadChannel s.dir.channels)
    bcast.schedule := i.schedule.mapEntries s.loadSchedule
    time.areas := i.areas
    time.watchAreas := i.watchAreas
    time.prng := BitVec.ofNat 32 i.identity.number
    catch_.species := i.species.mapVals s.loadSpecies
    catch_.factors := factorTable i.factors
    catch_.reportTime := i.reportTime
    handler.individual := i.individual
    handler.collective := i.collective
    link.watchStation := i.watchStation
    ports := ⟨{ s.ports.p1 with map := i.maps.p1, choices := i.choices.p1 },
      { s.ports.p2 with map := i.maps.p2, choices := i.choices.p2 },
      { s.ports.p3 with map := i.maps.p3, choices := i.choices.p3 }⟩ }.reworkSpecies.recomputeAreas

/-- The settings image is loaded, or defaults are taken (R210). -/
def State.loadSettings (s : State) : State :=
  match s.settings.loadable with
  | some i => s.applyImage i true
  | none => s.applyImage SettingsImage.default false

/-- The saved quota state of a species, by its code (R161). -/
def TallyImage.restore (t : TallyImage) (sp : Species) : Species :=
  match t.quotas.find? fun q => q.code == sp.cfg.code with
  | some q => { sp with state := q.state, nearRaised := q.nearRaised, reachedRaised := q.reachedRaised }
  | none => { sp with state := .none, nearRaised := false, reachedRaised := false }

/-- The values of a row are in range (R141). -/
def Row.good (r : Row) : Bool :=
  codeGood r.code && decide (r.area ≤ Config.areas) && decide (r.day ≤ r.trip) && decide (r.trip ≤ Config.mostKilograms)

/-- Rows in the order of R141, none of a species and area twice. -/
def rowsSorted : List Row → Bool
  | [] => true
  | r :: rest => rest.all (fun q => r.before q) && rowsSorted rest

/-- A tally image whose CRC holds is good: its 64 slots hold rows in their order, and every value is in range (R141, R146,
11.5; which conditions count is a model choice, log entry 62). -/
def TallyImage.good (t : TallyImage) : Bool :=
  decide (t.rows.length ≤ Config.tallyRows) && rowsSorted t.rows && t.rows.all Row.good &&
    t.quotas.all fun q => codeGood q.code

/-- The tally image is loaded at power-on; a bad one leaves an empty tally (R161, 11.5). -/
def State.loadTally (s : State) : State :=
  match s.settings.tallyImage.filter TallyImage.good with
  | some t =>
    { s with
      catch_.rows := t.rows, catch_.spanStart := t.spanStart
      catch_.species := s.catch_.species.mapVals t.restore
      settings.tallyLoadGood := true }.reworkSpecies
  | none => { s with catch_.rows := [], catch_.spanStart := none, settings.tallyLoadGood := false }

/-! ### Writes (R160, R211) -/

/-- The next waiting write starts: what was taken first is written first (R160), so a tally copy that waits goes before a
SAVE-SETTINGS taken after it (model choice beside R211, log entry 43). -/
def Settings.nextWrite (c : Settings) : Settings :=
  match c.queue with
  | [] => { c with writing := none }
  | w :: rest => { c with writing := some w, queue := rest }

/-- What a write leaves in the serial memory: its data, the old image, or one whose CRC fails (R211, log entry 4). -/
def written {α : Type} (r : WriteResult) (data : α) (old : Option α) : Option α :=
  match r with
  | .done => some data
  | .failedKept => old
  | .failedBad => none

/-- The write ended FAILED. -/
def writeFailed : WriteResult → Bool
  | .done => false
  | .failedKept | .failedBad => true

/-- The settings write ends (R211). -/
def State.settingsWritten (s : State) (r : WriteResult) : State :=
  match s.settings.writing with
  | some (.settings i) =>
    let c := { s.settings with
      image := written r i s.settings.image, lastSave := if writeFailed r then .failed else .done }
    let s1 := { s with settings := c.nextWrite }
    if writeFailed r then s1.raise (.settingsLost .settings .saveFailed) else s1
  | _ => s

/-- The tally write ends (R160, R211). -/
def State.tallyWritten (s : State) (r : WriteResult) : State :=
  match s.settings.writing with
  | some (.tally t) =>
    let c := { s.settings with tallyImage := written r t s.settings.tallyImage }
    let s1 := { s with settings := c.nextWrite }
    if writeFailed r then s1.raise (.settingsLost .tally .saveFailed) else s1
  | _ => s

/-- A loss of power during a write leaves an image whose CRC fails (R211). -/
def Settings.cutWrite (c : Settings) : Settings :=
  match c.writing with
  | some (.settings _) => { c with image := none }
  | some (.tally _) => { c with tallyImage := none }
  | none => c

end Sys2Proof.Machine
end

