-- ==== Sys2Proof/Machine/Start.lean ====
section
/-! DEFINITION. Power-on, loss of power, RESTART and the end of loading (R26, R71, R163, R183, R191, R199, R211 to R213). -/

namespace Sys2Proof.Machine

/-- Power is lost: working memory is gone, a write in flight leaves a bad image, and the distress line stands as it is
(R211). -/
def State.powerLost (s : State) : State :=
  { State.reset with
    pending := s.pending, phase := .off
    distress.line := s.distress.line
    settings.image := s.settings.cutWrite.image
    settings.tallyImage := s.settings.cutWrite.tallyImage }

/-- Power is applied: straps are sampled, every block takes its power-on state, and the two images are loaded (R212). The report
of a defaulted identity begins clear: no image holds it (R205, R210; model choice, log entry 63). -/
def State.poweredOn (s : State) (level1 level2 level3 : BitVec 2) : State :=
  { s.powerLost with
    phase := .loading, startCause := .powerOn
    ports := ⟨.initial level1, .initial level2, .initial level3⟩
    settings.defaulted := false }.loadSettings.loadTally

/-- The blocks begin at the end of loading: the call watch, the watch scan, the distress line (R71, R163, R189, R212). The
scan steps before the call watch acts on its grant, so TUNE-WATCH becomes due before TUNE-MAIN (model choice, log entry 36). -/
def State.begin (s : State) : State :=
  let s1 := s.claimWatch.dueTest.watchStep
  if s1.distress.line then { s1 with distress.holdTimer := some (s1.after Config.holdSeconds) } else s1

/-- Each SETTINGS-LOST that the loads gave (R161, R210, R212). -/
def State.raiseLoadLosses (s : State) : State :=
  let s1 := if s.settings.loadGood then s else s.raise (.settingsLost .settings .loadBad)
  if s.startCause = .powerOn ∧ !s.settings.tallyLoadGood then s1.raise (.settingsLost .tally .loadBad) else s1

/-- Loading ends: SETTINGS-LOST, then STARTED, and the blocks begin (R212). After a RESTART, which does not reload the tally
image, STARTED repeats the tally result of the last power-on (model choice, log entry 54). -/
def State.loadingEnds (s : State) : State :=
  if s.phase = .loading then
    ({ s.raiseLoadLosses with phase := .running }.raise
      (.started s.startCause (s.ports.map PortState.level) s.settings.loadGood s.settings.tallyLoadGood)).begin
  else s

/-! ### RESTART (R213) -/

/-- An entry of an activity that RESTART ends is LOST (R26). It carries no message number, the SESSION entry's last one
included, which R98 gives at the ends of a session that it names (model choice, log entry 35). -/
def LogEntry.lose (now : Time) (e : LogEntry) : LogEntry := if e.ended then e else e.complete now .lost none none

/-- The store and the log at RESTART, SENDING records in ascending message number (model choice, log entry 45): the entries
of a reception under way, and of its bulletin in progress, end LOST with their error figures (R24, R26, R124, R130). -/
def State.restartStore (s : State) : State :=
  let s1 := s.sessionRecords.foldl (State.settleSending false) s
  let s2 := s1.freeRecords' (s1.numbersWhere fun r => r.state == .receiving)
  let s3 := (s2.bcast.windows.filter fun w => w.state != .waiting).foldl (fun t w => t.cutEntries w .lost .lost) s2
  { s3 with log.entries := s3.log.entries.map (LogEntry.lose s3.time.now) }.storeLowTest

/-- A port at RESTART: receiver hunting, marks clear, queue, level and cursor kept (R199, R201, R206, R213). -/
def PortState.restart (p : PortState) : PortState :=
  { p with hunting := true, freshHunt := true, frameError := false, flags := 0, overrun := false }

/-- The handler at RESTART: silence and the last answer are gone, the serial is kept (R67, R99). -/
def Handler.restart (h : Handler) : Handler := { h with silence := none, last := none, recent := [] }

/-- The distress unit at RESTART, QUIET: the record, the list and the alarm are kept, and nothing is in flight (R162, R175,
R179). -/
def Distress.restart (d : Distress) : Distress :=
  { d with
    holdTimer := none, slot := none, granted := false, rotating := false, awaitTune := false, onAir := false
    logEntry := none, releaseAfter := false, cancelAfter := false, grantAfter := false }

/-- The main transceiver at RESTART: UNKEY is sent if the keyed flag was set (R183). -/
def State.restartRadio (s : State) : State :=
  { (if s.main.keyed then s.command .main .unkey else s) with
    main := MainRadio.initial, watch := WatchRadio.initial, mainPath := .searching, watchPath := .searching }

/-- Every block ends its operation in flight, and the settings image is loaded again (R213). The receivers of the control link
and of the navigation line stay as they are (model choice, log entry 7). -/
def State.restarted (s : State) : State :=
  { s.restartStore.restartRadio with
    phase := .loading, startCause := .restart
    ports := s.ports.map PortState.restart
    link := LinkEngine.initial
    handler := s.handler.restart
    bcast.windows := []
    catch_.deferral := none
    distress := s.distress.restart
    arb := { holder := none, waiting := [], yieldAsked := false }
    msgs := [] }.loadSettings

end Sys2Proof.Machine
end

