-- ==== Sys2Proof/Machine/Tables.lean ====
section
/-! DEFINITION. Requests on the station table, the channel table and the area table (R27 to R34, R50). -/

namespace Sys2Proof.Machine

/-! ### Stations (R28 to R30) -/

/-- A list of channels that STATION-SET takes: 1 to 6 indices without repeats, each a loaded channel whose use is not
DISTRESS (R28 check 4). -/
def State.listable (s : State) (l : List Nat) : Bool :=
  !l.isEmpty && decide (l.length ≤ Config.listChannels) && !repeats l &&
    l.all fun n => decide (1 ≤ n) && decide (n ≤ Config.channels) && (s.channel n).any (·.cfg.use != .distress)

/-- The station that a loaded entry holds is engaged (R29). -/
def State.entryEngaged (s : State) (entry : Nat) : Bool := (s.dir.stations.find entry).any fun st => s.engaged st.cfg.number

/-- The configured fields as written, with the changes made (R28). -/
def stationTaken (a : StationArgs) : StationCfg × List Change :=
  let attempts := min (max a.attempts 1) 8
  ({ number := a.number, name := nameOf 12 a.name, traffic := a.traffic, broadcast := a.broadcast,
     authority := a.authority, channels := a.channels, attempts },
   (if a.name.map normByte = a.name then [] else [.nameNormalised]) ++ (if 12 < a.name.length then [.nameCut] else []) ++
     if attempts = a.attempts then [] else [.attemptsClamped attempts])

/-- The other entry that carries AUTHORITY (R27, R28). -/
def State.otherAuthority (s : State) (entry : Nat) : Option Nat :=
  (s.dir.stations.find? fun e => e.1 != entry && e.2.cfg.authority).map (·.1)

/-- AUTHORITY is cleared. -/
def Station.demote (st : Station) : Station := { st with cfg := { st.cfg with authority := false } }

/-- A station entry loaded afresh (R28). -/
def Station.fresh (cfg : StationCfg) : Station :=
  { cfg, shoreHold := false, consoleHold := false, k := 0, nextCall := none, nextCallArmed := false, noChannel := false }

/-- The working memory of a written entry is kept with the same number, and fresh otherwise; the no-channel mark is
cleared (R28, R75). -/
def Station.rewritten (cfg : StationCfg) (old : Option Station) : Station :=
  match old with
  | some st => if st.cfg.number = cfg.number then { st with cfg, noChannel := false } else .fresh cfg
  | none => .fresh cfg

/-- HOLD-CHANGED for a station whose entry loses its holds (R28, R29). -/
def State.raiseLostHolds (s : State) (old : Option Station) : State :=
  match old with
  | some st => if st.held then s.raise (.holdChanged st.cfg.number false false) else s
  | none => s

/-- The entry is written (R28). -/
def State.writeStation (s : State) (entry : Nat) (cfg : StationCfg) : State :=
  let old := s.dir.stations.find entry
  let s1 := match (if cfg.authority then s.otherAuthority entry else none) with
    | some n => { s with dir.stations := s.dir.stations.upd n Station.demote }
    | none => s
  let s2 := { s1 with dir.stations := s1.dir.stations.put entry (Station.rewritten cfg old) }
  (if old.any (fun st => st.cfg.number = cfg.number) then s2 else s2.raiseLostHolds old).post .dueTest

/-- STATION-SET (R28). -/
def State.takeStationSet (s : State) (entry : Nat) (a : StationArgs) : State × Answer :=
  let holder := s.entryOf a.number
  if s.entryEngaged entry || (holder.any (·.1 != entry) && s.engaged a.number) then (s, plain .inUse)
  else if entry = 0 ∨ Config.stations < entry ∨ !stationInRange a.number ∨ holder.any (·.1 != entry) then
    (s, plain .badArgument)
  else if !s.listable a.channels then (s, plain .badArgument)
  else
    let (cfg, changes) := stationTaken a
    let lost := match (if a.authority then s.otherAuthority entry else none) with
      | some n => [Change.authorityCleared n]
      | none => []
    (s.writeStation entry cfg, okWith (changes ++ lost))

/-- STATION-SET: a station entry is written (R28). -/
def execStationSet (r : Req) (entry : Nat) (args : StationArgs) (s : State) : Result :=
  command .stationSet r s fun t => t.takeStationSet entry args

/-- STATION-CLEAR (R29). -/
def State.takeStationClear (s : State) (entry : Nat) : State × Answer :=
  if s.entryEngaged entry then (s, plain .inUse)
  else match s.dir.stations.find entry with
    | none => (s, plain .notFound)
    | some st => ({ s with dir.stations := s.dir.stations.del entry }.raiseLostHolds (some st), plain .ok)

/-- STATION-CLEAR: a station entry becomes empty (R29). -/
def execStationClear (r : Req) (entry : Nat) (s : State) : Result :=
  command .stationClear r s fun t => t.takeStationClear entry

/-- The Q and the present score of a listed channel (R29). -/
def State.rated (s : State) (n : Nat) : Nat × Nat × Nat :=
  (n, (s.channel n).elim 0 (·.q), (s.channel n).elim 0 s.score)

/-- STATION-GET (R29). -/
def State.answerStationGet (s : State) (entry : Nat) : Answer :=
  match s.dir.stations.find entry with
  | none => plain .empty
  | some st => ⟨.ok, .station st (st.cfg.channels.map s.rated)⟩

/-- STATION-GET: the fields of a station entry (R29). -/
def execStationGet (r : Req) (entry : Nat) (s : State) : Result :=
  query .stationGet r s fun t => t.answerStationGet entry

/-- HOLD-STATION and RELEASE-STATION (R30). -/
def State.takeConsoleHold (s : State) (station : Nat) (v : Bool) : State × Answer :=
  if s.knows station then (s.setConsoleHold station v, plain .ok) else (s, plain .notFound)

/-- HOLD-STATION: the console-hold is set (R30). -/
def execHoldStation (r : Req) (station : Nat) (s : State) : Result :=
  command .holdStation r s fun t => t.takeConsoleHold station true

/-- RELEASE-STATION: the console-hold is cleared (R30). -/
def execReleaseStation (r : Req) (station : Nat) (s : State) : Result :=
  command .releaseStation r s fun t => t.takeConsoleHold station false

/-! ### Channels (R33, R34) -/

/-- The main transceiver is tuned to the channel for its present holder, or a tune to it is in flight for the holder
(R33, R183). -/
def State.tunedForHolder (s : State) (n : Nat) : Bool :=
  s.arb.holder.isSome &&
    (s.main.tuned == some n ||
      s.main.flight.any fun t => t.channel == n && t.requester.isSome && t.requester == s.arb.holder)

/-- The channel is in use by the radio, but for the use that a request would give it (R33 check 2). -/
def State.channelInUse (s : State) (n : Nat) : Bool :=
  s.tunedForHolder n || (s.distress.state != .quiet && (s.channel n).any (·.cfg.use == .distress))

/-- The other entries of use DISTRESS (R33 check 5). -/
def State.otherDistress (s : State) (entry : Nat) : Nat :=
  (s.dir.channels.filter fun e => e.1 != entry && e.2.cfg.use == .distress).length

/-- An entry is loaded afresh; a watch receiver tuned to it is tuned to none (R33, R189). The no-channel marks of the
stations that list it are cleared (R75). A TUNE-WATCH in flight to the entry is left as it is, so its READY makes the
channel tuned on the frequency that it carried (R189 speaks of the tuned channel alone; model choice, log entry 42). -/
def State.writeChannel (s : State) (entry : Nat) (cfg : ChannelCfg) : State :=
  let s1 := { s with
    dir.channels := s.dir.channels.put entry { cfg, q := Config.startQ, lastFail := none }
    watch.tuned := if s.watch.tuned = some entry then none else s.watch.tuned }
  (s1.clearMarks entry).post .dueTest

/-- CHANNEL-SET (R33). -/
def State.takeChannelSet (s : State) (entry : Nat) (a : ChannelArgs) : State × Answer :=
  let use := Use.ofCode a.use
  if s.channelInUse entry || (use == some .distress && s.distress.state != .quiet) then (s, plain .inUse)
  else if entry = 0 ∨ Config.channels < entry ∨ !freqInRange a.tx ∨ !freqInRange a.rx then (s, plain .badArgument)
  else match use with
    | none => (s, plain .badArgument)
    | some use =>
      if use = .distress ∧ s.listed entry then (s, plain .badArgument)
      else if use = .distress ∧ !(s.channel entry).any (·.cfg.use == .distress) ∧
          Config.distressChannels ≤ s.otherDistress entry then (s, plain .tableFull)
      else
        let startHour := min a.startHour 23
        let endHour := min a.endHour 23
        (s.writeChannel entry { tx := a.tx, rx := a.rx, use, startHour, endHour, disabled := a.disabled },
          okWith ((if startHour = a.startHour then [] else [.startHourClamped]) ++
            if endHour = a.endHour then [] else [.endHourClamped]))

/-- CHANNEL-SET: a channel entry is written afresh (R33). -/
def execChannelSet (r : Req) (entry : Nat) (args : ChannelArgs) (s : State) : Result :=
  command .channelSet r s fun t => t.takeChannelSet entry args

/-- The channel is named by an entry of the broadcast schedule (R33). -/
def State.scheduled (s : State) (n : Nat) : Bool := s.bcast.schedule.any fun e => e.2.cfg.channel == n

/-- CHANNEL-CLEAR (R33). -/
def State.takeChannelClear (s : State) (entry : Nat) : State × Answer :=
  if s.channelInUse entry || s.listed entry || s.scheduled entry then (s, plain .inUse)
  else if (s.channel entry).isNone then (s, plain .notFound)
  else (({ s with dir.channels := s.dir.channels.del entry }.clearMarks entry).post .dueTest, plain .ok)

/-- CHANNEL-CLEAR: a channel entry becomes empty (R33). -/
def execChannelClear (r : Req) (entry : Nat) (s : State) : Result :=
  command .channelClear r s fun t => t.takeChannelClear entry

/-- The disabled flag takes a value. -/
def Channel.setDisabled (v : Bool) (c : Channel) : Channel := { c with cfg := { c.cfg with disabled := v } }

/-- CHANNEL-DISABLE (R34). -/
def State.takeChannelDisable (s : State) (entry : Nat) : State × Answer :=
  if (s.channel entry).isNone then (s, plain .notFound) else (s.updChannel entry (Channel.setDisabled true), plain .ok)

/-- CHANNEL-DISABLE: the disabled flag is set (R34). -/
def execChannelDisable (r : Req) (entry : Nat) (s : State) : Result :=
  command .channelDisable r s fun t => t.takeChannelDisable entry

/-- CHANNEL-ENABLE clears the no-channel marks of the stations that list the channel (R34, R75). -/
def State.takeChannelEnable (s : State) (entry : Nat) : State × Answer :=
  if (s.channel entry).isNone then (s, plain .notFound)
  else (((s.updChannel entry (Channel.setDisabled false)).clearMarks entry).post .dueTest, plain .ok)

/-- CHANNEL-ENABLE: the disabled flag is cleared (R34). -/
def execChannelEnable (r : Req) (entry : Nat) (s : State) : Result :=
  command .channelEnable r s fun t => t.takeChannelEnable entry

/-- CHANNEL-GET (R34). -/
def State.answerChannelGet (s : State) (entry : Nat) : Answer :=
  match s.channel entry with
  | none => plain .empty
  | some c => ⟨.ok, .channel c (s.score c) (c.failedLately s.time.now)⟩

/-- CHANNEL-GET: the fields of a channel entry (R34). -/
def execChannelGet (r : Req) (entry : Nat) (s : State) : Result :=
  query .channelGet r s fun t => t.answerChannelGet entry

/-! ### Areas (R50) -/

/-- The bounds of an area that AREA-SET takes (R50). -/
def areaInRange (a : AreaArgs) : Bool :=
  latInRange a.south && latInRange a.north && lonInRange a.west && lonInRange a.east && decide (a.south < a.north) &&
    a.west != a.east

/-- AREA-SET (R50). -/
def State.takeAreaSet (s : State) (area : Nat) (a : AreaArgs) : State × Answer :=
  if area = 0 ∨ Config.areas < area ∨ !areaInRange a then (s, plain .badArgument)
  else
    let entry : Area := { name := nameOf 12 a.name, south := a.south, north := a.north, west := a.west, east := a.east }
    ({ s with time.areas := s.time.areas.put area entry }.recomputeAreas,
      okWith (if 12 < a.name.length then [.nameCut] else []))

/-- AREA-SET: an area entry is written (R50). -/
def execAreaSet (r : Req) (area : Nat) (args : AreaArgs) (s : State) : Result :=
  localRequest .areaSet r s fun t => t.takeAreaSet area args

/-- AREA-CLEAR (R50). -/
def State.takeAreaClear (s : State) (area : Nat) : State × Answer :=
  if (s.time.areas.find area).isNone then (s, plain .notFound)
  else ({ s with time.areas := s.time.areas.del area }.recomputeAreas, plain .ok)

/-- AREA-CLEAR: an area entry becomes empty (R50). -/
def execAreaClear (r : Req) (area : Nat) (s : State) : Result :=
  localRequest .areaClear r s fun t => t.takeAreaClear area

/-- AREA-GET (R50). -/
def State.answerAreaGet (s : State) (area : Nat) : Answer :=
  match s.time.areas.find area with
  | none => plain .empty
  | some a => ⟨.ok, .area a⟩

/-- AREA-GET: an area entry (R50). -/
def execAreaGet (r : Req) (area : Nat) (s : State) : Result :=
  query .areaGet r s fun t => t.answerAreaGet area

end Sys2Proof.Machine
end

