-- ==== Sys2Proof/Machine/ClockPosition.lean ====
section
/-! DEFINITION. Requests and events of the ship clock and the position fix (R44, R47 to R49, R53) and the quarter hour
(R72). -/

namespace Sys2Proof.Machine

/-- SET-TIME: the clock is loaded, and the answer carries Δ (R44). -/
def execSetTime (r : Req) (value : Time) (s : State) : Result :=
  command .setTime r s fun t => (t.loadClock value .console, ⟨.ok, .delta (t.stepTo value)⟩)

/-- POSITION: a fallback while there is no fresh fix (R48). -/
def State.takePosition (s : State) (lat lon : Int) : State × Answer :=
  if !latInRange lat ∨ !lonInRange lon then (s, plain .badArgument)
  else if s.fixFresh then (s, okWith [.navigationActive])
  else (s.takeFix lat lon .console, plain .ok)

/-- POSITION: a console gives a position (R48). -/
def execPosition (r : Req) (lat lon : Int) (s : State) : Result :=
  localRequest .position r s fun t => t.takePosition lat lon

/-- FIX-STATUS (R53). -/
def State.answerFixStatus (s : State) : Answer :=
  ⟨.ok, .fixStatus s.time.now s.time.source (s.time.fix.map fun f => (f, age s.time.now f.time)) (!s.fixFresh)
    s.time.areaSet s.primaryArea s.time.watchAreas⟩

/-- FIX-STATUS: the clock, the fix and the areas (R53). -/
def execFixStatus (r : Req) (s : State) : Result := query .fixStatus r s State.answerFixStatus

/-- A navigation record that passes its tests replaces the fix; the mark 1 says that there is a fix (R47, 11.4). Records
are discarded while the part loads (R212). The navigation receiver hunts again (R215). -/
def State.takeRecordedFix (s : State) (check : Bool) (mark : Nat) (lat lon : Int) : State :=
  let s1 := { s with navRx := .searching }
  if s.phase = .running ∧ check ∧ mark = 1 ∧ latInRange lat ∧ lonInRange lon then s1.takeFix lat lon .nav else s1

/-- POSITION-RECORD: a record arrives on the navigation line (R47). -/
def execPositionRecord (check : Bool) (mark : Nat) (lat lon : Int) (s : State) : Result :=
  localEvent s fun t => t.takeRecordedFix check mark lat lon

/-- POSITION-AGE-EXPIRY: the fix becomes stale (R49). -/
def execPositionAgeExpiry (s : State) : Result := localEvent s fun t => t.expire t.ageTimer State.positionStale

/-- The next multiple of 900 that ship time reaches; the wrap reaches 0 (R41, R72, log entry 1). -/
def nextQuarter (now : Time) : Time := BitVec.ofNat 32 (min ((now.toNat / 900 + 1) * 900) (2 ^ 32))

/-- Ship time reaches a quarter hour, if it does not stand on one: the call-watch channel is chosen again (R72). -/
def State.quarterHour (s : State) : State :=
  (if s.time.now.toNat % 900 = 0 then s else { s with time.now := nextQuarter s.time.now }).rechooseWatch

/-- QUARTER-HOUR: the call watch chooses its channel again (R72). -/
def execQuarterHour (s : State) : Result := event s fun t => if t.holds_ .watch then t.quarterHour else t

end Sys2Proof.Machine
end

