-- ==== Sys2Proof/Machine/LinkRequests.lean ====
section
/-! DEFINITION. Requests on the link engine and the acceptance table (R73, R76, R103), and on broadcasts (R118, R119, R132,
R137). -/

namespace Sys2Proof.Machine

/-! ### CALL-NOW and WATCH-STATION (R73, R76) -/

/-- CALL-NOW: next-call time and no-channel mark are cleared (R76). -/
def State.takeCallNow (s : State) (station : Nat) : State × Answer :=
  if !s.knows station then (s, plain .notFound)
  else
    let s1 := s.updStation station fun st => { st.callOpen with noChannel := false }
    let due := (s1.stationOf station).any s1.due
    (s1.post .dueTest, ⟨.ok, .callNow due (!due) (s.engaged station)⟩)

/-- CALL-NOW: a station is called without waiting for its next-call time (R76). -/
def execCallNow (r : Req) (station : Nat) (s : State) : Result :=
  command .callNow r s fun t => t.takeCallNow station

/-- The station has an enabled channel of use TRAFFIC (R73). -/
def State.hasWatchChannel (s : State) (st : Station) : Bool := (s.watchChannelOf st).isSome

/-- The watch station takes a value; a call watch that is held chooses its channel again (R72, R73). -/
def State.setWatchStation (s : State) (v : Option Nat) : State := { s with link.watchStation := v }.rechooseWatch

/-- WATCH-STATION (R73); the value none is answered OK with the channel flag clear (model choice, log entry 49). -/
def State.takeWatchStation (s : State) (v : Option Nat) : State × Answer :=
  match v with
  | none => (s.setWatchStation none, ⟨.ok, .watchChannel false []⟩)
  | some number =>
    match s.stationOf number with
    | none => (s, plain .notFound)
    | some st =>
      if !st.cfg.traffic then (s, plain .badArgument)
      else
        (s.setWatchStation (some number),
          if s.hasWatchChannel st then ⟨.ok, .watchChannel true []⟩ else ⟨.partly, .watchChannel false [.noWatchChannel]⟩)

/-- WATCH-STATION: the station whose calls the engine listens for (R73). -/
def execWatchStation (r : Req) (station : Option Nat) (s : State) : Result :=
  command .watchStation r s fun t => t.takeWatchStation station

/-! ### The acceptance table (R103) -/

/-- A cell takes a value. -/
def Handler.setCell (a : Addressing) (code : Nat) (v : Acceptance) (h : Handler) : Handler :=
  match a with
  | .individual => { h with individual := h.individual.set code v }
  | .collective => { h with collective := h.collective.set code v }

/-- ACCEPT-SET (R103). -/
def State.takeAcceptSet (s : State) (code addressing value : Nat) : State × Answer :=
  match Addressing.ofCode addressing, Acceptance.ofCode value with
  | some a, some v =>
    if code = 0 ∨ 12 < code then (s, plain .badArgument)
    else if a = .collective ∧ needsAnswer code then
      (s, okWith (if v = .refuse then [] else [.cellKept code]))
    else ({ s with handler := s.handler.setCell a code v }, plain .ok)
  | _, _ => (s, plain .badArgument)

/-- ACCEPT-SET: a cell of the acceptance table takes a value (R103). -/
def execAcceptSet (r : Req) (code addressing value : Nat) (s : State) : Result :=
  localRequest .acceptSet r s fun t => t.takeAcceptSet code addressing value

/-- ACCEPT-GET: the 32 cells (R103). -/
def execAcceptGet (r : Req) (s : State) : Result :=
  query .acceptGet r s fun t => ⟨.ok, .cells t.handler.individual t.handler.collective⟩

/-! ### The schedule (R118, R119) -/

/-- The station index names a loaded entry with the BROADCAST kind flag (R118 check 4). -/
def State.broadcaster (s : State) (n : Nat) : Bool := (s.dir.stations.find n).any (·.cfg.broadcast)

/-- The channel index names a loaded channel of use BROADCAST (R118 check 5). -/
def State.broadcastChannel (s : State) (n : Nat) : Bool := (s.channel n).any (·.cfg.use == .broadcast)

/-- The last-taken day after an edit: kept with an unchanged start, else the latest occurrence while the clock is set
(R43, R118). -/
def State.editedDay (s : State) (old : Option Schedule) (start : Nat) : Option Int :=
  let fresh := if s.time.source = .unset then none else some (latestDay s.time.now start)
  match old with
  | some e => if e.cfg.start = start then e.lastTaken else fresh
  | none => fresh

/-- SCHEDULE-SET (R118). -/
def State.takeScheduleSet (s : State) (entry : Nat) (a : ScheduleArgs) : State × Answer :=
  if (s.window entry).isSome then (s, plain .inUse)
  else if entry = 0 ∨ Config.scheduleEntries < entry ∨ 1439 < a.start then (s, plain .badArgument)
  else if !s.broadcaster a.station ∨ !s.broadcastChannel a.channel then (s, plain .badArgument)
  else match mustOfCode a.mode with
    | none => (s, plain .badArgument)
    | some must =>
      let duration := min (max a.duration 1) 60
      let cfg : ScheduleCfg :=
        { station := a.station, channel := a.channel, start := a.start, duration, must, enabled := a.enabled }
      let day := s.editedDay (s.bcast.schedule.find entry) a.start
      ({ s with bcast.schedule := s.bcast.schedule.put entry { cfg, lastTaken := day } },
        okWith (if duration = a.duration then [] else [.durationClamped duration]))

/-- SCHEDULE-SET: a schedule entry is written (R118). -/
def execScheduleSet (r : Req) (entry : Nat) (args : ScheduleArgs) (s : State) : Result :=
  localRequest .scheduleSet r s fun t => t.takeScheduleSet entry args

/-- SCHEDULE-CLEAR (R119). -/
def State.takeScheduleClear (s : State) (entry : Nat) : State × Answer :=
  if (s.window entry).isSome then (s, plain .inUse)
  else if (s.bcast.schedule.find entry).isNone then (s, plain .notFound)
  else ({ s with bcast.schedule := s.bcast.schedule.del entry }, plain .ok)

/-- SCHEDULE-CLEAR: a schedule entry becomes empty (R119). -/
def execScheduleClear (r : Req) (entry : Nat) (s : State) : Result :=
  localRequest .scheduleClear r s fun t => t.takeScheduleClear entry

/-- SCHEDULE-GET (R119). -/
def State.answerScheduleGet (s : State) (entry : Nat) : Answer :=
  match s.bcast.schedule.find entry with
  | none => plain .empty
  | some e =>
    ⟨.ok, .schedule e.cfg.station e.cfg.channel e.cfg.start e.cfg.duration e.cfg.must e.cfg.enabled e.lastTaken
      ((s.window entry).map (·.state))⟩

/-- SCHEDULE-GET: the fields of a schedule entry (R119). -/
def execScheduleGet (r : Req) (entry : Nat) (s : State) : Result :=
  query .scheduleGet r s fun t => t.answerScheduleGet entry

/-! ### Watch areas and the register (R132, R137) -/

/-- AREA-WATCH: the watch areas become a set (R132). -/
def execAreaWatch (r : Req) (areas : BitVec 32) (s : State) : Result :=
  localRequest .areaWatch r s fun t =>
    ({ t with time.watchAreas := areasOfBits areas }, ⟨.ok, .areas (areasOfBits areas)⟩)

/-- BULLETIN-REGISTER: an EMPTY answer carries no count (R137; model choice, log entry 41). -/
def State.takeBulletinRegister (s : State) (start : Nat) : State × Answer :=
  let s1 := s.ageRegister
  let held := s1.bcast.register.length
  (s1, if held ≤ start then plain .empty
    else ⟨.ok, .register ((s1.bcast.register.drop start).take Config.pageOfEntries) held⟩)

/-- BULLETIN-REGISTER: up to 16 entries of the register (R137). -/
def execBulletinRegister (r : Req) (start : Nat) (s : State) : Result :=
  localRequest .bulletinRegister r s fun t => t.takeBulletinRegister start

end Sys2Proof.Machine
end

