-- ==== Sys2Proof/Machine/CatchRequests.lean ====
section
/-! DEFINITION. Requests on the species, the factors, the tally and the catch report (R138 to R148, R157 to R159), and the
events of the report's timers (R149, R154, R155). -/

namespace Sys2Proof.Machine

/-! ### Species (R139) -/

/-- The entry's old code would be lost under rows or factors that name it (R139 check 5). -/
def State.renameBarred (s : State) (entry : Nat) (code : List Byte) : Bool :=
  (s.catch_.species.find entry).any fun sp => sp.cfg.code != code && s.catch_.names sp.cfg.code

/-- A species entry as written: state and flags are kept with the code (R139). -/
def Species.rewritten (cfg : SpeciesCfg) (old : Option Species) : Species :=
  match old with
  | some sp =>
    if sp.cfg.code = cfg.code then { sp with cfg } else { cfg, state := .none, nearRaised := false, reachedRaised := false }
  | none => { cfg, state := .none, nearRaised := false, reachedRaised := false }

/-- SPECIES-SET (R139). -/
def State.takeSpeciesSet (s : State) (entry : Nat) (given : List Byte) (quota : Nat) : State × Answer :=
  if entry = 0 ∨ Config.speciesEntries < entry then (s, plain .badArgument)
  else match codeOf given with
    | none => (s, plain .badArgument)
    | some code =>
      if (s.speciesOf code).any (·.1 != entry) then (s, plain .badArgument)
      else if s.renameBarred entry code then (s, plain .inUse)
      else if Config.mostKilograms < quota then (s, plain .badArgument)
      else
        let sp := Species.rewritten { code, quota } (s.catch_.species.find entry)
        ({ s with catch_.species := s.catch_.species.put entry sp }.evaluateSpecies code none, plain .ok)

/-- SPECIES-SET: a species entry is written (R139). -/
def execSpeciesSet (r : Req) (entry : Nat) (code : List Byte) (quota : Nat) (s : State) : Result :=
  localRequest .speciesSet r s fun t => t.takeSpeciesSet entry code quota

/-- SPECIES-CLEAR (R139). -/
def State.takeSpeciesClear (s : State) (entry : Nat) : State × Answer :=
  match s.catch_.species.find entry with
  | none => (s, plain .notFound)
  | some sp =>
    if s.catch_.names sp.cfg.code then (s, plain .inUse)
    else ({ s with catch_.species := s.catch_.species.del entry }, plain .ok)

/-- SPECIES-CLEAR: a species entry becomes empty (R139). -/
def execSpeciesClear (r : Req) (entry : Nat) (s : State) : Result :=
  localRequest .speciesClear r s fun t => t.takeSpeciesClear entry

/-- SPECIES-GET (R139). -/
def State.answerSpeciesGet (s : State) (entry : Nat) : Answer :=
  match s.catch_.species.find entry with
  | none => plain .empty
  | some sp => ⟨.ok, .species sp.cfg.code sp.cfg.quota sp.state (s.tripSum sp.cfg.code)⟩

/-- SPECIES-GET: a species entry with its trip sum (R139). -/
def execSpeciesGet (r : Req) (entry : Nat) (s : State) : Result :=
  query .speciesGet r s fun t => t.answerSpeciesGet entry

/-! ### Factors (R140) -/

/-- FACTOR-SET (R140). Its refusals are tested in the order of the rule's text (model choice, log entry 59). -/
def State.takeFactorSet (s : State) (code : List Byte) (form factor : Nat) : State × Answer :=
  match Form.ofCode form with
  | none => (s, plain .badArgument)
  | some fm =>
    if factor < 1000 ∨ 9999 < factor then (s, plain .badArgument)
    else if (s.speciesOf code).isNone then (s, plain .notFound)
    else if (s.factorOf code fm).isNone ∧ Config.factorEntries ≤ s.catch_.factors.length then (s, plain .tableFull)
    else ({ s with catch_.factors := putFactor { code, form := fm, factor } s.catch_.factors }, plain .ok)

/-- FACTOR-SET: the factor of a species and form (R140). -/
def execFactorSet (r : Req) (code : List Byte) (form factor : Nat) (s : State) : Result :=
  localRequest .factorSet r s fun t => t.takeFactorSet code form factor

/-- FACTOR-CLEAR (R140). -/
def State.takeFactorClear (s : State) (code : List Byte) (form : Nat) : State × Answer :=
  match Form.ofCode form with
  | none => (s, plain .notFound)
  | some fm =>
    if (s.factorOf code fm).isNone then (s, plain .notFound)
    else
      ({ s with catch_.factors := s.catch_.factors.filter fun f => f.code != code || f.form != fm }, plain .ok)

/-- FACTOR-CLEAR: a factor entry is removed (R140). -/
def execFactorClear (r : Req) (code : List Byte) (form : Nat) (s : State) : Result :=
  localRequest .factorClear r s fun t => t.takeFactorClear code form

/-- FACTOR-GET (R140). -/
def State.answerFactorGet (s : State) (start : Nat) : Answer :=
  let held := s.catch_.factors.length
  if held ≤ start then plain .empty
  else ⟨.ok, .factors ((s.catch_.factors.drop start).take Config.pageOfEntries) held⟩

/-- FACTOR-GET: up to 16 factor entries (R140). -/
def execFactorGet (r : Req) (start : Nat) (s : State) : Result :=
  query .factorGet r s fun t => t.answerFactorGet start

/-! ### POST-CATCH (R142 to R146) -/

/-- A checked posting (R142). -/
structure Posting where
  haul    : Nat
  code    : List Byte
  form    : Form
  weight  : Nat
  landing : Bool
  deriving DecidableEq, Repr

/-- The posting's fields, if they are in range (R142 check 1). -/
def postingOf (haul : Nat) (code : List Byte) (form weight kind : Nat) : Option Posting :=
  match Form.ofCode form, landingOfCode kind with
  | some fm, some landing =>
    if 1 ≤ haul ∧ haul ≤ 65535 ∧ weight ≤ Config.mostWeight then some { haul, code, form := fm, weight, landing } else none
  | _, _ => none

/-- The row to be posted to: the one held, or for a LANDING a new one while there is room (R142 check 3, R144). -/
def State.postingRow (s : State) (p : Posting) : Except Code Row :=
  match s.row p.code s.primaryArea with
  | some r => .ok r
  | none =>
    if !p.landing then .error .notFound
    else if Config.tallyRows ≤ s.catch_.rows.length then .error .tableFull
    else .ok { code := p.code, area := s.primaryArea, day := 0, trip := 0, unconverted := false }

/-- A posting is applied to its row, and the quota state is worked out (R143 to R146). -/
def State.applyPosting (s : State) (p : Posting) (row : Row) : State × Answer :=
  let held := s.factorOf p.code p.form
  let factor := held.getD 1000
  let live := liveWeight p.weight factor
  let moved := if p.landing then row.land live else row.correct live
  let row' := { moved with unconverted := row.unconverted || held.isNone }
  let s1 := { s with catch_.rows := putRow row' s.catch_.rows }.evaluateSpecies p.code (some p.haul)
  let saturated := p.landing && row.saturates live
  let clamped := !p.landing && row.clamps live
  (s1,
    ⟨if saturated || clamped then .partly else .ok,
      .posted p.haul factor live row'.area row'.day row'.trip (s1.tripSum p.code)
        ((s1.speciesOf p.code).elim .none (·.2.state)) held.isNone saturated clamped⟩)

/-- POST-CATCH (R142). -/
def State.takePosting (s : State) (haul : Nat) (code : List Byte) (form weight kind : Nat) : State × Answer :=
  match postingOf haul code form weight kind with
  | none => (s, plain .badArgument)
  | some p =>
    if (s.speciesOf code).isNone then (s, plain .notFound)
    else match s.postingRow p with
      | .error c => (s, plain c)
      | .ok row => s.applyPosting p row

/-- POST-CATCH: a landing or a correction (R142). -/
def execPostCatch (r : Req) (haul : Nat) (code : List Byte) (form weight kind : Nat) (s : State) : Result :=
  localRequest .postCatch r s fun t => t.takePosting haul code form weight kind

/-! ### The report (R148, R157 to R159) -/

/-- REPORT-TIME-SET (R43, R148). -/
def State.takeReportTimeSet (s : State) (minute : Nat) : State × Answer :=
  if 1439 < minute then (s, plain .badArgument)
  else
    let taken := if minute = s.catch_.reportTime ∨ s.time.source = .unset then s.catch_.reportTaken
      else some (latestDay s.time.now minute)
    ({ s with catch_.reportTime := minute, catch_.reportTaken := taken }, plain .ok)

/-- REPORT-TIME-SET: the daily report time (R148). -/
def execReportTimeSet (r : Req) (minute : Nat) (s : State) : Result :=
  localRequest .reportTimeSet r s fun t => t.takeReportTimeSet minute

/-- REPORT-NOW's answer by the course its trigger takes (R157). -/
def State.reportAnswer (s : State) : Course → Answer
  | .noAuthority => ⟨.notFound, .noAuthority⟩
  | .pendingReports l => ⟨.ok, .pendingReports l⟩
  | .composed n sp => ⟨.ok, .composed n sp⟩
  | .deferred => ⟨.storeFull, .deferredSince s.catch_.spanStart⟩

/-- REPORT-NOW takes a NOW trigger (R157). -/
def State.takeReportNow (s : State) : State × Answer :=
  let (s1, course) := s.trigger .now
  (s1, s1.reportAnswer course)

/-- REPORT-NOW: a report is composed or sent again (R157). -/
def execReportNow (r : Req) (s : State) : Result := command .reportNow r s State.takeReportNow

/-- Quota state and flags are cleared (R158). -/
def Species.cleared (sp : Species) : Species := { sp with state := .none, nearRaised := false, reachedRaised := false }

/-- TRIP-START (R158). -/
def State.takeTripStart (s : State) : State × Answer :=
  if s.pendingReports ≠ [] ∨ s.catch_.deferral.isSome then (s, plain .reportPending)
  else
    let today := if s.time.source = .unset then none else some (dayOf s.time.now)
    ({ s with
      catch_.rows := []
      catch_.species := s.catch_.species.mapVals Species.cleared
      catch_.spanStart := today }.saveTally, plain .ok)

/-- TRIP-START: a new fishing trip (R158). -/
def execTripStart (r : Req) (s : State) : Result := localRequest .tripStart r s State.takeTripStart

/-- TALLY (R159). -/
def State.answerTally (s : State) (start : Nat) : Answer :=
  let rows := (s.catch_.rows.drop start).take Config.pageOfEntries
  ⟨if s.catch_.rows.length ≤ start then .empty else .ok,
    .tally rows s.catch_.rows.length s.catch_.spanStart s.catch_.reportTime s.catch_.deferral.isSome
      s.catch_.lastConfirmed s.pendingReports⟩

/-- TALLY: up to 16 rows with the report state (R159). -/
def execTally (r : Req) (start : Nat) (s : State) : Result := query .tally r s fun t => t.answerTally start

/-! ### Timers of the report (R149, R154, R155) -/

/-- The clock runs on to the next occurrence of a calendar entry that is not due (R43, log entry 1). -/
def State.waitCalendar (s : State) (minute : Nat) (lastTaken : Option Int) : State :=
  if s.time.source == .unset || calendarDue s.time.source s.time.now minute lastTaken then s
  else match calendarNext s.time.now minute lastTaken with
    | some t => { s with time.now := t }
    | none => s

/-- REPORT-TIME-DUE: the report time falls due and gives a DAILY trigger (R43, R149). -/
def execReportTimeDue (s : State) : Result :=
  event s fun t =>
    if t.phase = .running then (t.waitCalendar t.catch_.reportTime t.catch_.reportTaken).reportDue else t

/-- RETRY-TIMER-EXPIRY: a deferred composition is tried again (R154). -/
def execRetryTimerExpiry (s : State) : Result := event s fun t => t.expire t.catch_.deferral State.retryExpired

/-- OVERDUE-TIMER-EXPIRY: a report without its receipt is queued again (R155). -/
def execOverdueTimerExpiry (msg : Nat) (s : State) : Result :=
  event s fun t => t.expire (t.catch_.overdue.find msg) fun u => u.overdueExpired msg

end Sys2Proof.Machine
end

