-- ==== Sys2Proof/Machine/DistressRequests.lean ====
section
/-! DEFINITION. Requests on distress alerts and the alarm (R164, R172, R173, R180, R181), and the events of the distress unit
(R163, R166, R168, R169). -/

namespace Sys2Proof.Machine

/-! ### Requests -/

/-- A DISTRESS request that is taken is an initiation (R165). -/
def State.initiateByRequest (s : State) (nature : Nature) (persons : Nat) : State :=
  match s.distress.state with
  | .quiet => s.initiate nature persons
  | .pending | .alerting | .acknowledged | .cancelling => s.updateAlert nature persons

/-- DISTRESS (R164). The nature is tested before the state, in the order of the rule's text (model choice, log entry 59). -/
def State.takeDistress (s : State) (nature persons : Nat) : State × Answer :=
  match Nature.ofCode nature with
  | none | some .cancel => (s, plain .badArgument)
  | some n =>
    if s.distress.state = .acknowledged ∨ s.distress.state = .cancelling then (s, plain .wrongState)
    else
      let s1 := s.initiateByRequest n (min persons 255)
      let changes := if 255 < persons then [Change.personsClamped] else []
      (s1, ⟨if changes.isEmpty then .ok else .partly, .own s1.distress.state s1.distress.serial changes⟩)

/-- DISTRESS: the own alert is started, or its values change (R164). -/
def execDistress (r : Req) (nature persons : Nat) (s : State) : Result :=
  command .distress r s fun t => t.takeDistress nature persons

/-- DISTRESS-CANCEL (R172). -/
def State.takeDistressCancel (s : State) : State × Answer :=
  match s.distress.state with
  | .pending | .alerting => (s.cancelAlert, plain .ok)
  | .quiet | .acknowledged | .cancelling => (s, plain .wrongState)

/-- DISTRESS-CANCEL: the own alert is cancelled on the air (R172). -/
def execDistressCancel (r : Req) (s : State) : Result := command .distressCancel r s State.takeDistressCancel

/-- DISTRESS-CLOSE (R173). -/
def State.takeDistressClose (s : State) : State × Answer :=
  if s.distress.state = .acknowledged then (s.closeAlert, plain .ok) else (s, plain .wrongState)

/-- DISTRESS-CLOSE: an acknowledged alert is closed (R173). -/
def execDistressClose (r : Req) (s : State) : Result := command .distressClose r s State.takeDistressClose

/-- NEW entries at or before a serial (R180). -/
def State.newUpTo (s : State) (serial : Nat) : Nat :=
  (s.distress.list.filter fun e => e.state == .new && serialUpTo e.serial serial).length

/-- ALARM-ACK (R180). -/
def State.takeAlarmAck (s : State) (p : Port) (given : Nat) : State × Answer :=
  if given = 0 then (s, plain .badArgument)
  else
    let applied := if serialUpTo given s.distress.highest then given else s.distress.highest
    let changes := if applied = given then [] else [Change.serialClamped applied]
    let code : Code := if changes.isEmpty then .ok else .partly
    if s.distress.alarm then
      let s1 := s.ackAlarm p applied
      (s1, ⟨code, .alarm applied (s.newUpTo applied) s1.distress.alarm changes⟩)
    else (s, ⟨code, .alarm applied 0 false changes⟩)

/-- ALARM-ACK: the alarm is acknowledged up to a serial (R180). -/
def execAlarmAck (r : Req) (serial : Nat) (s : State) : Result :=
  localRequest .alarmAck r s fun t => t.takeAlarmAck r.port serial

/-- The own alert record (R162, R181). -/
def Distress.own (d : Distress) : OwnRecord :=
  { state := d.state, nature := d.nature, persons := d.persons, serial := d.serial, started := d.started,
    rotPos := d.rotPos, nextCycle := d.nextCycle, ackStation := d.ackStation }

/-- DISTRESS-LIST: the own alert, the alarm and the list (R181). -/
def execDistressList (r : Req) (s : State) : Result :=
  query .distressList r s fun t =>
    ⟨.ok, .distressList t.distress.own t.distress.alarm t.distress.highest t.newEntries (bySerial t.distress.list)⟩

/-! ### Events -/

/-- The distress line as a pin (R163). -/
def State.lineSet (s : State) (v : Bool) : State := { s with distress.line := v }

/-- The line changes from released to asserted: while the part runs, a hold of 3 s begins (R163). -/
def State.lineAsserted (s : State) : State :=
  if s.distress.line ∨ s.phase ≠ .running then s.lineSet true
  else { s.lineSet true with distress.holdTimer := some (s.after Config.holdSeconds) }

/-- DISTRESS-LINE-ASSERTED: the bridge button is pressed; a part that is off or loads reads the line when loading
completes (R163, R212). -/
def execDistressLineAsserted (s : State) : Result :=
  if s.phase = .off then .next (s.lineSet true) else localEvent s State.lineAsserted

/-- The line is released: a running hold is disarmed (R163). -/
def State.lineReleased (s : State) : State := { s.lineSet false with distress.holdTimer := none }

/-- DISTRESS-LINE-RELEASED: the bridge button is released (R163). -/
def execDistressLineReleased (s : State) : Result :=
  if s.phase = .off then .next (s.lineSet false) else localEvent s State.lineReleased

/-- The hold has lasted: a line initiation is taken (R163). -/
def State.holdExpired (s : State) : State := { s with distress.holdTimer := none }.lineInitiation

/-- HOLD-TIMER-EXPIRY (R163). -/
def execHoldTimerExpiry (s : State) : Result := event s fun t => t.expire t.distress.holdTimer State.holdExpired

/-- GRANTED: the distress unit takes the message for its class 1 claim (R166). -/
def execGranted (s : State) : Result := event s State.takeGranted

/-- The listen slot is over; with the alert still ALERTING the next step begins (R168). -/
def State.slotExpired (s : State) : State :=
  let s1 := { s with distress.slot := none }
  if s.distress.state = .alerting then s1.rotationStep else s1

/-- ALERT-LISTEN-SLOT-EXPIRY (R168). -/
def execAlertListenSlotExpiry (s : State) : Result := event s fun t => t.expire t.distress.slot State.slotExpired

/-- The wait between rotations is over: the next rotation begins (R169). -/
def State.cycleExpired (s : State) : State :=
  if s.distress.state = .alerting then s.startRotation else { s with distress.nextCycle := none }

/-- ALERT-CYCLE-WAIT-EXPIRY (R169). -/
def execAlertCycleWaitExpiry (s : State) : Result := event s fun t => t.expire t.distress.nextCycle State.cycleExpired

end Sys2Proof.Machine
end

