-- ==== Sys2Proof/Machine/RadioRequests.lean ====
section
/-! DEFINITION. Requests on the radios (R186, R198) and the events of the control link, the tunes, the keying and the watch
scan (R183, R184, R187, R189, R215). -/

namespace Sys2Proof.Machine

/-! ### Requests -/

/-- The main transceiver returns to service (R186, R197). -/
def State.restoreMain (s : State) : State :=
  let s1 := { s with main.faults := 0, main.inService := true }
  if s.main.inService then s1 else (s1.raise (.radioFault .main true .restored none)).post .backInService

/-- The watch receiver returns to service, and its scan takes up where it stopped (R186, R190). -/
def State.restoreWatch (s : State) : State :=
  let s1 := { s with watch.faults := 0, watch.inService := true }
  if s.watch.inService then s1 else (s1.raise (.radioFault .watch true .restored none)).watchStep

/-- RADIO-RESTORE: both radios return to service, and the notice of MAIN is raised before that of WATCH (R186). The scan steps
before BACK-IN-SERVICE is acted on, so TUNE-WATCH becomes due before TUNE-MAIN (model choice in both, log entry 36). -/
def execRadioRestore (r : Req) (s : State) : Result :=
  command .radioRestore r s fun t =>
    (t.restoreMain.restoreWatch, ⟨.ok, .restored t.main.inService t.watch.inService⟩)

/-- RADIO-STATUS (R198). -/
def State.answerRadioStatus (s : State) : Answer :=
  ⟨.ok, .radios s.main.inService s.main.faults s.main.tuned (s.main.flight.map (·.channel)) s.main.keyed
    s.watch.inService s.watch.faults s.watch.dwell s.watch.pos s.watch.tuned s.arb.holder s.arb.yieldAsked
    s.arb.waiting⟩

/-- RADIO-STATUS: the radios and the arbiter (R198). -/
def execRadioStatus (r : Req) (s : State) : Result := query .radioStatus r s State.answerRadioStatus

/-! ### The control link (R183, R215) -/

/-- The control receiver hunts again after a message (R215). -/
def State.answerEnds (s : State) : State := { s with controlRx := .searching }

/-- An answer that passes its CRC and carries the tag of a tune in flight (R184, R215). -/
def answers (check : Bool) (tag : BitVec 8) (flight : Option Tune) : Bool := check && flight.any (·.tag == tag)

/-- MAIN-TUNE-ANSWER: READY is code 0, and any other result is taken as FAULT (R184, R215). -/
def execMainTuneAnswer (check : Bool) (tag : BitVec 8) (result : Nat) (s : State) : Result :=
  event s fun t => if answers check tag t.main.flight then t.answerEnds.endMainTune (result == 0) else t.answerEnds

/-- WATCH-TUNE-ANSWER (R189, R215). -/
def execWatchTuneAnswer (check : Bool) (tag : BitVec 8) (result : Nat) (s : State) : Result :=
  localEvent s fun t => if answers check tag t.watch.flight then t.answerEnds.endWatchTune (result == 0) else t.answerEnds

/-- CONTROL-COMMAND-SENT: the last byte of a command goes out (R183). -/
def execControlCommandSent (s : State) : Result := localEvent s State.endCommand

/-- The receiver of an input takes a value. -/
def State.setLinkRx (s : State) (i : LinkInput) (v : RxState) : State :=
  match i with
  | .control => { s with controlRx := v }
  | .navigation => { s with navRx := v }

/-- LINK-INTER-BYTE-TIMEOUT: the message is discarded and the receiver hunts again (R215). -/
def execLinkInterByteTimeout (input : LinkInput) (s : State) : Result := localEvent s fun t => t.setLinkRx input .searching

/-- LINK-START-BYTE: the receiver begins to take a message (R215). -/
def execLinkStartByte (input : LinkInput) (s : State) : Result := localEvent s fun t => t.setLinkRx input .reading

/-! ### Tune timers (R184, R189) -/

/-- MAIN-TUNE-TIMER-EXPIRY: the tune ends as FAULT (R184). -/
def execMainTuneTimerExpiry (s : State) : Result :=
  event s fun t => t.expire (t.main.flight.bind (·.timer)) fun u => u.endMainTune false

/-- WATCH-TUNE-TIMER-EXPIRY: the watch tune ends as FAULT (R189). -/
def execWatchTuneTimerExpiry (s : State) : Result :=
  localEvent s fun t => t.expire (t.watch.flight.bind (·.timer)) fun u => u.endWatchTune false

/-! ### The watch scan (R189) -/

/-- The timer of a dwell state, if the scan is in it. -/
def State.dwellTimer (s : State) (d : DwellState) : Option Time := if s.watch.dwell = d then s.watch.timer else none

/-- A dwell ends: its timer is disarmed and a new step begins (R42, R189). -/
def State.dwellEnded (s : State) : State := { s with watch.timer := none }.watchStep

/-- DWELL-EXPIRY (R189). -/
def execDwellExpiry (s : State) : Result := localEvent s fun t => t.expire (t.dwellTimer .dwelling) State.dwellEnded

/-- IDLE-DWELL-EXPIRY (R189). -/
def execIdleDwellExpiry (s : State) : Result := localEvent s fun t => t.expire (t.dwellTimer .idleDwell) State.dwellEnded

/-! ### Keying (R187) -/

/-- The key-up time has passed: the bit stream of the burst starts (R187). -/
def State.keyUpEnded (s : State) : State :=
  match s.main.onAir with
  | some (b, .keyUp) => { s with main.onAir := some (b, .bits) }
  | _ => s

/-- KEY-UP-TIME-EXPIRY (R187). -/
def execKeyUpTimeExpiry (s : State) : Result := localEvent s State.keyUpEnded

/-- BURST-END: the last bit of the burst goes out (R187). -/
def execBurstEnd (s : State) : Result := event s State.endBurst

end Sys2Proof.Machine
end

