-- ==== Sys2Proof/Machine/PortRequests.lean ====
section
/-! DEFINITION. Requests on ports, grants, notices and settings (R200, R203 to R211, R213), the events of the console lines
(R199, R201), and the ends of serial-memory writes (R160, R211). -/

namespace Sys2Proof.Machine

/-! ### Grants and identity (R203 to R205) -/

/-- The map after a GRANT-SET: the bits of the grants that the requesting port holds take the given values (R203). -/
def editedMap (mask given old : Half) : Half := (old &&& ~~~mask) ||| (given &&& mask)

/-- GRANT-SET (R203). -/
def State.takeGrantSet (s : State) (from_ : Port) (port : Nat) (given : Half) : State × Answer :=
  match Port.ofNumber port with
  | none => (s, plain .badArgument)
  | some p =>
    let mask := (s.ports.get from_).held s.settings.distressLevel
    let map := editedMap mask given (s.ports.get p).map
    ({ s with ports := s.ports.set p { s.ports.get p with map } },
      ⟨if mask = 0xFFFF then .ok else .partly, .grants mask map⟩)

/-- GRANT-SET: a port's grant map is edited (R203). -/
def execGrantSet (r : Req) (port : Nat) (map : Half) (s : State) : Result :=
  localRequest .grantSet r s fun t => t.takeGrantSet r.port port map

/-- DISTRESS-LEVEL-SET: the floor of DISTRESS-START, at most 3 (R204). -/
def execDistressLevelSet (r : Req) (level : Nat) (s : State) : Result :=
  localRequest .distressLevelSet r s fun t =>
    ({ t with settings.distressLevel := min level 3 }, okWith (if 3 < level then [.levelClamped] else []))

/-- SHIP-SET (R205). -/
def State.takeShipSet (s : State) (number : Nat) (name callSign : List Byte) : State × Answer :=
  if s.distress.state ≠ .quiet then (s, plain .distressActive)
  else if !shipInRange number then (s, plain .badArgument)
  else
    ({ s with
      settings.identity := { number, name := nameOf 16 name, callSign := nameOf 8 callSign }
      settings.defaulted := false },
      okWith ((if 16 < name.length then [.nameCut] else []) ++ if 8 < callSign.length then [.callSignCut] else []))

/-- SHIP-SET: the ship identity (R205). -/
def execShipSet (r : Req) (number : Nat) (name callSign : List Byte) (s : State) : Result :=
  localRequest .shipSet r s fun t => t.takeShipSet number name callSign

/-! ### Notices (R207, R208) -/

/-- Change one port. -/
def State.updPort (s : State) (p : Port) (f : PortState → PortState) : State :=
  { s with ports := s.ports.set p (f (s.ports.get p)) }

def PortState.route (kinds : Half) (p : PortState) : PortState := { p with choices := kinds }

/-- ROUTE-SET: the port's own routing choices (R207). -/
def execRouteSet (r : Req) (kinds : Half) (s : State) : Result :=
  localRequest .routeSet r s fun t => (t.updPort r.port (PortState.route kinds), plain .ok)

def PortState.pollEnds (p : PortState) : PortState := { p with flags := 0, overrun := false }

/-- POLL (R208). -/
def State.takePoll (s : State) (p : Port) : State × Answer :=
  let q := s.ports.get p
  if q.flags = 0 ∧ !q.overrun then (s, plain .empty) else (s.updPort p PortState.pollEnds, ⟨.ok, .flags q.flags q.overrun⟩)

/-- POLL: the port's flags and overrun mark are returned and cleared (R208). -/
def execPoll (r : Req) (s : State) : Result := localRequest .poll r s fun t => t.takePoll r.port

/-! ### STATUS (R209) -/

def PortState.clearFrameError (p : PortState) : PortState := { p with frameError := false }

def State.answerStatus (s : State) (p : Port) : Answer :=
  let q := s.ports.get p
  ⟨.ok, .status q.level (q.held s.settings.distressLevel) q.map q.frameError s.freePages s.freeRecords s.distress.state
    s.main.inService s.watch.inService s.time.source (s.handler.silence.map fun x => (x.imposer, x.endTime))
    s.settings.saveState s.settings.lastSave (!s.settings.loadGood) s.settings.identity.number s.settings.defaulted⟩

/-- STATUS: the state of the port and of the part; the port's frame-error flag is cleared (R209). -/
def execStatus (r : Req) (s : State) : Result :=
  localRequest .status r s fun t => (t.updPort r.port PortState.clearFrameError, t.answerStatus r.port)

/-! ### Settings and RESTART (R211, R213) -/

/-- SAVE-SETTINGS (R211). -/
def State.takeSaveSettings (s : State) : State × Answer :=
  if s.saving then (s, plain .inUse)
  else ({ s with settings := s.settings.startWrite (.settings s.imageCopy) }, ⟨.ok, .saving s.settings.writing.isSome⟩)

/-- SAVE-SETTINGS: the settings image is written (R211). -/
def execSaveSettings (r : Req) (s : State) : Result := localRequest .saveSettings r s State.takeSaveSettings

/-- RESTART (R213). Its refusals are tested in the order of the rule's text (model choice, log entry 59). -/
def State.takeRestart (s : State) : State × Answer :=
  if s.distress.state ≠ .quiet then (s, plain .distressActive)
  else if s.saving then (s, plain .inUse)
  else (s.restarted, plain .ok)

/-- RESTART: the part starts afresh with its store, log, clock and tally kept (R213). -/
def execRestart (r : Req) (s : State) : Result := localRequest .restart r s State.takeRestart

/-- UNKNOWN-REQUEST: a kind outside the index is answered UNKNOWN-KIND (R200). -/
def execUnknownRequest (r : Req) (kind : Nat) (s : State) : Result :=
  query (.other kind) r s fun _ => plain .unknownKind

/-! ### Console lines (R199, R201) -/

/-- A bad frame is discarded: the frame-error flag is set and the receiver hunts (R199). -/
def PortState.badFrame (p : PortState) : PortState := { p with hunting := true, freshHunt := true, frameError := true }

/-- BAD-FRAME (R199). -/
def execBadFrame (port : Port) (s : State) : Result := localEvent s fun t => t.updPort port PortState.badFrame

/-- A gap inside a frame makes it bad; a receiver that hunts takes no frame (R199). -/
def PortState.gap (p : PortState) : PortState := if p.hunting then p else p.badFrame

/-- CONSOLE-INTER-BYTE-TIMEOUT (R199). -/
def execConsoleInterByteTimeout (port : Port) (s : State) : Result := localEvent s fun t => t.updPort port PortState.gap

def PortState.startByte (p : PortState) : PortState := { p with hunting := false, freshHunt := false }

/-- CONSOLE-START-BYTE: the receiver moves to READING (R199). -/
def execConsoleStartByte (port : Port) (s : State) : Result := localEvent s fun t => t.updPort port PortState.startByte

/-- A byte discarded in HUNTING: the first one sets the frame-error flag (R199). -/
def PortState.discard (p : PortState) : PortState :=
  if p.hunting && p.freshHunt then { p with freshHunt := false, frameError := true } else p

/-- HUNTING-BYTE-DISCARDED (R199). -/
def execHuntingByteDiscarded (port : Port) (s : State) : Result := localEvent s fun t => t.updPort port PortState.discard

def PortState.frameSent (p : PortState) : PortState := { p with outQ := p.outQ.tail }

/-- OUTPUT-FRAME-SENT: the frame being sent leaves the queue (R201). -/
def execOutputFrameSent (port : Port) (s : State) : Result := localEvent s fun t => t.updPort port PortState.frameSent

/-! ### Serial memory (R160, R211) -/

/-- TALLY-WRITE-END (R160, R211). -/
def execTallyWriteEnd (result : WriteResult) (s : State) : Result := localEvent s fun t => t.tallyWritten result

/-- SETTINGS-WRITE-END (R211). -/
def execSettingsWriteEnd (result : WriteResult) (s : State) : Result := localEvent s fun t => t.settingsWritten result

end Sys2Proof.Machine
end

