-- ==== Sys2Proof/Machine/Bursts.lean ====
section
/-! DEFINITION. Bursts received on the two paths (R55 to R68). -/

namespace Sys2Proof.Machine

/-- A path takes a state of its sync search (R55). -/
def State.setPath (s : State) (p : Path) (v : RxState) : State :=
  match p with
  | .main => { s with mainPath := v }
  | .watch => { s with watchPath := v }

/-- A path is held in SEARCHING and hears nothing (R188). -/
def State.pathHeld (s : State) : Path → Bool
  | .main => s.mainHeld
  | .watch => s.watchHeld

/-- A burst is taken on a path that is not held, and the path searches again (R55, R188). -/
def State.hear (s : State) (p : Path) (take : State → State) : State :=
  if s.pathHeld p then s else (take s).setPath p .searching

/-- Bursts that the watch path discards (R56). -/
def onMain (p : Path) (take : State → State) (s : State) : State :=
  match p with
  | .main => take s
  | .watch => s

/-- CALL-BURST (R56, R57, R80 to R82). -/
def execCallBurst (path : Path) (station ship _purpose _waiting : Nat) (s : State) : Result :=
  event s fun t => t.hear path (onMain path fun u => u.hearCall station ship)

/-- ACCEPT-BURST (R78). -/
def execAcceptBurst (path : Path) (station ship : Nat) (s : State) : Result :=
  event s fun t => t.hear path (onMain path fun u => u.hearAccept station ship)

/-- REJECT-BURST: the three reasons are treated alike (R58, R78). -/
def execRejectBurst (path : Path) (station ship _reason : Nat) (s : State) : Result :=
  event s fun t => t.hear path (onMain path fun u => u.hearReject station ship)

/-- VOLLEY-BURST (R82, R90 to R92). -/
def execVolleyBurst (path : Path) (header : RxHeader) (frames : List RxFrame) (s : State) : Result :=
  event s fun t => t.hear path (onMain path fun u => u.hearVolley header frames)

/-- TALLY-BURST (R87). -/
def execTallyBurst (path : Path) (tally : RxTally) (s : State) : Result :=
  event s fun t => t.hear path (onMain path fun u => u.hearTally tally)

/-- CLEAR-BURST (R64, R98). -/
def execClearBurst (path : Path) (reason : Nat) (s : State) : Result :=
  event s fun t => t.hear path (onMain path fun u => u.hearClear (ClearReason.ofCode reason))

/-- COLLECTIVE-BURST: a BEGIN, TEXT or END frame (R66). -/
def execCollectiveBurst (path : Path) (c : RxCollective) (kind : Nat) (s : State) : Result :=
  event s fun t => t.hear path (onMain path fun u => u.readFrame c kind)

/-- The type code of DIRECTIVE frames (11.1). -/
def directiveType : Nat := 3

/-- COLLECTIVE-DIRECTIVE-BURST: the check of R67, and on the main path the place of the frame in a reception (R66). The reader
takes the frame before a revocation that the directive has brought about ends the reception (model choice, log entry 52). -/
def execCollectiveDirectiveBurst (path : Path) (c : RxCollective) (s : State) : Result :=
  event s fun t => t.hear path fun u => onMain path (fun v => v.readFrame c directiveType) (u.checkDirective path c)

/-- ALERT-BURST (R56, R68, R176). -/
def execAlertBurst (path : Path) (a : RxAlert) (s : State) : Result :=
  event s fun t => t.hear path fun u => u.hearAlert path a

/-- BAD-BURST: discarded, as though nothing had arrived (R56). -/
def execBadBurst (path : Path) (s : State) : Result := localEvent s fun t => t.hear path id

/-- A frame that was not fully received counts as a frame with a bad check (R55). -/
def missingFrame : RxFrame := { check := false, seq := 0, kind := 0, used := 0, payload := [] }

/-- The frames of a volley that was cut short (R55). -/
def cutFrames (h : RxHeader) (frames : List RxFrame) : List RxFrame :=
  frames ++ List.replicate (h.count - frames.length) missingFrame

/-- A header whose check fails (R55, R59). -/
def badHeader : RxHeader := { check := false, counter := 0, count := 0, code := 0, isOver := false }

/-- A burst cut short (R55, R56). -/
def State.hearCut (s : State) : CutBurst → State
  | .volley h frames => s.hearVolley h (cutFrames h frames)
  | .volleyHeader => s.hearVolley badHeader []
  | .other => s

/-- CARRIER-DROP: the burst being read is cut short, and the path searches again (R55). -/
def execCarrierDrop (path : Path) (cut : CutBurst) (s : State) : Result :=
  event s fun t => t.hear path (onMain path fun u => u.hearCut cut)

/-- SYNC-WORD-MATCH: a path that searches begins to read (R55, R188). -/
def execSyncWordMatch (path : Path) (s : State) : Result :=
  localEvent s fun t => if t.pathHeld path then t else t.setPath path .reading

/-- UNDEFINED-BURST-KIND: the path searches again (R55). -/
def execUndefinedBurstKind (path : Path) (s : State) : Result := localEvent s fun t => t.setPath path .searching

end Sys2Proof.Machine
end

