-- ==== Sys2Proof/Machine/Expiries.lean ====
section
/-! DEFINITION. The timers of the link engine, the directive handler and the broadcast receiver (R31, R78, R82, R88, R90, R92,
R114, R121, R125), and power (R211, R212). -/

namespace Sys2Proof.Machine

/-! ### The link engine -/

/-- The next-call timer of a station entry, while its expiry has not been taken (R31, R42). -/
def State.callTimer (s : State) (entry : Nat) : Option Time :=
  (s.dir.stations.find entry).bind fun st => if st.nextCallArmed then st.nextCall else none

/-- The expiry is taken: the timer is disarmed, and the engine tests for due stations (R31, R42, R75). -/
def Station.callTimeTaken (st : Station) : Station := { st with nextCallArmed := false }

def State.callTimeExpired (s : State) (entry : Nat) : State :=
  { s with dir.stations := s.dir.stations.upd entry Station.callTimeTaken }.post .dueTest

/-- NEXT-CALL-TIME-EXPIRY (R31, R75). -/
def execNextCallTimeExpiry (entry : Nat) (s : State) : Result :=
  event s fun t => t.expire (t.callTimer entry) fun u => u.callTimeExpired entry

/-- LISTEN-WINDOW-EXPIRY (R78). -/
def execListenWindowExpiry (s : State) : Result :=
  event s fun t => t.expire (t.link.round.bind (·.listen)) State.listenExpired

/-- AWAIT-FIRST-WAIT-EXPIRY (R82). -/
def execAwaitFirstWaitExpiry (s : State) : Result :=
  event s fun t => t.expire (t.link.await.bind (·.wait)) State.awaitExpired

/-- TALLY-WINDOW-EXPIRY (R88). -/
def execTallyWindowExpiry (s : State) : Result :=
  event s fun t => t.expire (t.link.session.bind (·.tallyWin)) State.tallyMissed

/-- CLEARING-WAIT-EXPIRY: the ship sends CLEAR DONE (R90). -/
def execClearingWaitExpiry (s : State) : Result :=
  event s fun t => t.expire (t.link.session.bind (·.clearWait)) fun u => u.sendClear .done

/-- RECEIVE-WINDOW-EXPIRY (R92). -/
def execReceiveWindowExpiry (s : State) : Result :=
  event s fun t => t.expire (t.link.session.bind (·.receiveWin)) fun u => u.volleyMissed false

/-! ### Silence and broadcasts -/

/-- SILENCE-END: the silence end passes (R114). -/
def execSilenceEnd (s : State) : Result :=
  event s fun t => t.expire (t.handler.silence.map (·.endTime)) fun u => u.endSilence .expired

/-- A schedule entry comes to its next occurrence, which is taken (R43, R121). -/
def State.scheduleComes (s : State) (entry : Nat) : State :=
  match s.bcast.schedule.find entry with
  | none => s
  | some e => (s.waitCalendar e.cfg.start e.lastTaken).scheduleDue entry

/-- SCHEDULE-ENTRY-DUE (R43, R121). -/
def execScheduleEntryDue (entry : Nat) (s : State) : Result :=
  event s fun t => if t.phase = .running then t.scheduleComes entry else t

/-- WINDOW-END (R122, R125). -/
def execWindowEnd (entry : Nat) (s : State) : Result :=
  event s fun t =>
    match t.window entry with
    | none => t
    | some w => t.expire (some w.endTime) fun u => u.windowEnded w

/-! ### Power -/

/-- POWER-ON: power is applied (R212). -/
def execPowerOn (level1 level2 level3 : BitVec 2) (s : State) : Result := .next (s.poweredOn level1 level2 level3)

/-- LOADING-END: the part begins to run (R212). -/
def execLoadingEnd (s : State) : Result := event s State.loadingEnds

/-- POWER-LOSS: working memory is lost (R211). -/
def execPowerLoss (s : State) : Result := .next s.powerLost

end Sys2Proof.Machine
end

