-- ==== Sys2Proof/Machine/Messages.lean ====
section
/-! DEFINITION. Requests on messages and on the traffic log (R13 to R22, R25). -/

namespace Sys2Proof.Machine

/-- A request that names a message: NOT-FOUND when no record holds the number (R13 check 1). -/
def State.onMessage (s : State) (msg : Nat) (take : MsgRec → State × Answer) : State × Answer :=
  match s.record msg with
  | none => (s, plain .notFound)
  | some r => take r

/-- The originator's requests: NOT-OWNER on every other port (R13 check 2). -/
def State.onOwnMessage (s : State) (p : Port) (msg : Nat) (take : MsgRec → State × Answer) : State × Answer :=
  s.onMessage msg fun r => if r.orig = .port p then take r else (s, plain .notOwner)

/-- Requests under the read grant of the record's class (R13 check 2). -/
def State.onReadable (s : State) (p : Port) (msg : Nat) (take : MsgRec → State × Answer) : State × Answer :=
  s.onMessage msg fun r => if s.holds p r.cls.readGrant then take r else (s, plain .refusedGrant)

/-! ### CREATE (R14) -/

/-- A DISTRESS precedence is taken as given only while the distress unit is ALERTING or ACKNOWLEDGED (R14). -/
def State.precedenceTaken (s : State) (p : Prec) : Prec :=
  if p = .distress ∧ s.distress.state ≠ .alerting ∧ s.distress.state ≠ .acknowledged then .urgency else p

/-- CREATE (R14). Its refusals are tested in the order of the rule's text (model choice, log entry 59). -/
def State.takeCreate (s : State) (p : Port) (station precedence : Nat) : State × Answer :=
  if !s.knows station then (s, plain .notFound)
  else match Prec.ofCode precedence with
    | none | some .report => (s, plain .badArgument)
    | some given =>
      let prec := s.precedenceTaken given
      let changes := if prec = given then [] else [Change.precedenceClamped]
      match s.allocRecord .ordinary (MsgRec.new s.time.now .traffic .outbound prec .draft (.port p) station) with
      | (none, s1) => (s1, plain .storeFull)
      | (some n, s1) => (s1, ⟨if changes.isEmpty then .ok else .partly, .created n changes⟩)

/-- CREATE: a console creates an outbound TRAFFIC draft (R14). -/
def execCreate (r : Req) (station precedence : Nat) (s : State) : Result :=
  localRequest .create r s fun t => t.takeCreate r.port station precedence

/-! ### APPEND (R16) -/

/-- Why an APPEND stopped (R16). -/
inductive AppendEnd
  | all | tooLong | noPage
  deriving DecidableEq, Repr

/-- One byte joins the end of a text. -/
def MsgRec.addByte (b : Byte) (r : MsgRec) : MsgRec := { r with text := r.text ++ [normByte b], textLen := r.textLen + 1 }

/-- The bytes are added one after another; a page is allocated before a byte at a text length that is a multiple of 64
(R16). The numbers are the counts accepted and replaced. -/
def State.appendBytes (s : State) (msg accepted replaced : Nat) : List Byte → State × Nat × Nat × AppendEnd
  | [] => (s, accepted, replaced, .all)
  | b :: rest =>
    let len := (s.record msg).elim 0 (·.textLen)
    if Config.textBytes ≤ len then (s, accepted, replaced, .tooLong)
    else
      let (ok, s1) := if len % Config.pageBytes = 0 then s.allocPages .ordinary 1 msg else (true, s)
      if ok then
        (s1.updRecord msg (MsgRec.addByte b)).appendBytes msg (accepted + 1)
          (replaced + if replacedByte b then 1 else 0) rest
      else (s1, accepted, replaced, .noPage)

/-- APPEND (R16). -/
def State.takeAppend (s : State) (p : Port) (msg : Nat) (bytes : List Byte) : State × Answer :=
  s.onOwnMessage p msg fun r =>
    if r.state ≠ .draft then (s, plain .wrongState)
    else if bytes.isEmpty ∨ 200 < bytes.length then (s, plain .badArgument)
    else
      let (s1, accepted, replaced, stop) := s.appendBytes msg 0 0 bytes
      match stop with
      | .all => (s1, ⟨.ok, .appended accepted replaced []⟩)
      | .tooLong => (s1, ⟨.partly, .appended accepted replaced [.tooLong]⟩)
      | .noPage => (s1, ⟨.storeFull, .appended accepted replaced []⟩)

/-- APPEND: the originator adds text to its draft (R16). -/
def execAppend (r : Req) (msg : Nat) (bytes : List Byte) (s : State) : Result :=
  localRequest .append r s fun t => t.takeAppend r.port msg bytes

/-! ### SUBMIT and WITHDRAW (R17, R18) -/

/-- SUBMIT (R17). -/
def State.takeSubmit (s : State) (p : Port) (msg : Nat) : State × Answer :=
  s.onOwnMessage p msg fun r =>
    if !s.holds p .submitTraffic then (s, plain .refusedGrant)
    else if r.state ≠ .draft then (s, plain .wrongState)
    else if r.textLen = 0 then (s, plain .badArgument)
    else ((s.updRecord msg fun r => { r with state := .queued }).post .dueTest, plain .ok)

/-- SUBMIT: the originator queues its draft (R17). -/
def execSubmit (r : Req) (msg : Nat) (s : State) : Result :=
  command .submit r s fun t => t.takeSubmit r.port msg

/-- WITHDRAW, by the record's state (R18). -/
def State.takeWithdraw (s : State) (p : Port) (msg : Nat) : State × Answer :=
  s.onOwnMessage p msg fun r =>
    match r.state with
    | .draft | .queued | .failed => (s.freeRecord msg, plain .ok)
    | .sending => (if r.withdrawPending then s else s.withdrawSending msg, okWith [.withdrawalPending])
    | .delivered | .confirmed | .receiving | .stored => (s, plain .wrongState)

/-- WITHDRAW: the originator takes an outbound record back (R18). -/
def execWithdraw (r : Req) (msg : Nat) (s : State) : Result :=
  command .withdraw r s fun t => t.takeWithdraw r.port msg

/-! ### DELETE, LIST, READ, KEEP (R19 to R22) -/

/-- The records that DELETE frees (R19). -/
def MsgRec.deletable (r : MsgRec) : Bool :=
  !r.keep &&
    match r.state with
    | .stored | .confirmed | .failed => true
    | .delivered => r.cls != .report
    | .draft | .queued | .sending | .receiving => false

/-- DELETE (R19). -/
def State.takeDelete (s : State) (p : Port) (msg : Nat) : State × Answer :=
  s.onReadable p msg fun r => if r.deletable then (s.freeRecord msg, plain .ok) else (s, plain .wrongState)

/-- DELETE: a finished record is freed (R19). -/
def execDelete (r : Req) (msg : Nat) (s : State) : Result :=
  localRequest .delete r s fun t => t.takeDelete r.port msg

/-- The summary of a record for a port (R20). -/
def MsgRec.summary (p : Port) (n : Nat) (r : MsgRec) : Summary :=
  { number := n, dir := r.dir, prec := r.prec, state := r.state, orig := r.orig, peer := r.peer, peerRef := r.peerRef,
    created := r.created, textLen := r.textLen, keep := r.keep, withdrawPending := r.withdrawPending,
    identity := r.identity, errFig := r.errFig, readHere := r.readMask.get p }

/-- The records a LIST matches, ascending (R20). -/
def State.listed_ (s : State) (cls : Cls) (state : Option MsgState) (start : Nat) : List (Nat × MsgRec) :=
  s.store.recs.filter fun e => decide (start < e.1) && e.2.cls == cls && state.all (e.2.state == ·)

/-- LIST (R20). -/
def State.answerList (s : State) (p : Port) (cls state start : Nat) : Answer :=
  match Cls.ofCode cls with
  | none => plain .badArgument
  | some c =>
    if !s.holds p c.readGrant then plain .refusedGrant
    else match listState state with
      | none => plain .badArgument
      | some st =>
        match s.listed_ c st start with
        | [] => plain .empty
        | l =>
          ⟨.ok, .listed ((l.take Config.pageOfEntries).map fun e => e.2.summary p e.1)
            (decide (Config.pageOfEntries < l.length))⟩

/-- LIST: up to 16 summaries (R20). -/
def execList (r : Req) (cls state start : Nat) (s : State) : Result :=
  query .list r s fun t => t.answerList r.port cls state start

/-- A READ returns the last byte of the text, or reads a text of length 0 (R21). -/
def MsgRec.readToEnd (offset count : Nat) (r : MsgRec) : Bool :=
  r.textLen == 0 || (decide (offset < r.textLen) && decide (r.textLen ≤ offset + count))

/-- READ (R21). -/
def State.takeRead (s : State) (p : Port) (msg offset count : Nat) : State × Answer :=
  s.onReadable p msg fun r =>
    if r.state = .receiving then (s, plain .wrongState)
    else if count = 0 ∨ 200 < count ∨ r.textLen < offset then (s, plain .badArgument)
    else
      let s1 := if r.readToEnd offset count then
          s.updRecord msg fun r => { r with readMask := r.readMask.set p true }
        else s
      (s1, ⟨.ok, .bytes ((r.text.drop offset).take count) r.textLen⟩)

/-- READ: bytes of a text (R21). -/
def execRead (r : Req) (msg offset count : Nat) (s : State) : Result :=
  localRequest .read r s fun t => t.takeRead r.port msg offset count

/-- KEEP-SET and KEEP-CLEAR (R22). -/
def State.takeKeep (s : State) (p : Port) (msg : Nat) (v : Bool) : State × Answer :=
  s.onReadable p msg fun r =>
    if r.state = .receiving then (s, plain .wrongState)
    else (s.updRecord msg fun r => { r with keep := v }, plain .ok)

/-- KEEP-SET (R22). -/
def execKeepSet (r : Req) (msg : Nat) (s : State) : Result :=
  localRequest .keepSet r s fun t => t.takeKeep r.port msg true

/-- KEEP-CLEAR (R22). -/
def execKeepClear (r : Req) (msg : Nat) (s : State) : Result :=
  localRequest .keepClear r s fun t => t.takeKeep r.port msg false

/-! ### READ-LOG (R25) -/

/-- The number of the oldest log entry, the counter's value when the ring is empty (R25). -/
def TrafficLog.oldest (l : TrafficLog) : Half := (l.entries.head?).elim l.next (·.number)

def State.setCursor (s : State) (p : Port) (c : Half) : State :=
  { s with ports := s.ports.set p { s.ports.get p with cursor := c } }

/-- READ-LOG (R25): the cursor against the ring. -/
def State.takeReadLog (s : State) (p : Port) (start : Option Half) : State × Answer :=
  let cursor := start.getD (s.ports.get p).cursor
  let oldest := s.log.oldest
  let held := s.log.entries.length
  let d := (cursor - oldest).toNat
  if d = held then (s.setCursor p cursor, plain .empty)
  else
    let (first, skipped) := if d < held then (cursor, none) else (oldest, some (oldest - cursor).toNat)
    let out := (s.log.entries.drop (first - oldest).toNat).take Config.readLogMost
    (s.setCursor p (first + BitVec.ofNat 16 out.length),
      ⟨if out.isEmpty then .empty else .ok, .logEntries out skipped⟩)

/-- READ-LOG: up to 8 log entries from the port's cursor (R25). -/
def execReadLog (r : Req) (start : Option Half) (s : State) : Result :=
  localRequest .readLog r s fun t => t.takeReadLog r.port start

end Sys2Proof.Machine
end

