-- ==== Sys2Proof/Machine/Dispatch.lean ====
section
/-! DEFINITION. The meaning of each command: one arm, one call. -/

namespace Sys2Proof.Machine

def exec (i : Instr) (s : State) : Host.Outcome State Fault Refusal :=
  match i with
  | .powerOn level1 level2 level3 => Sys2Proof.Machine.execPowerOn level1 level2 level3 s
  | .loadingEnd => Sys2Proof.Machine.execLoadingEnd s
  | .create r station precedence => Sys2Proof.Machine.execCreate r station precedence s
  | .append r msg bytes => Sys2Proof.Machine.execAppend r msg bytes s
  | .submit r msg => Sys2Proof.Machine.execSubmit r msg s
  | .withdraw r msg => Sys2Proof.Machine.execWithdraw r msg s
  | .delete r msg => Sys2Proof.Machine.execDelete r msg s
  | .list r cls state start => Sys2Proof.Machine.execList r cls state start s
  | .read r msg offset count => Sys2Proof.Machine.execRead r msg offset count s
  | .keepSet r msg => Sys2Proof.Machine.execKeepSet r msg s
  | .keepClear r msg => Sys2Proof.Machine.execKeepClear r msg s
  | .readLog r start => Sys2Proof.Machine.execReadLog r start s
  | .stationSet r entry args => Sys2Proof.Machine.execStationSet r entry args s
  | .stationClear r entry => Sys2Proof.Machine.execStationClear r entry s
  | .stationGet r entry => Sys2Proof.Machine.execStationGet r entry s
  | .holdStation r station => Sys2Proof.Machine.execHoldStation r station s
  | .releaseStation r station => Sys2Proof.Machine.execReleaseStation r station s
  | .channelSet r entry args => Sys2Proof.Machine.execChannelSet r entry args s
  | .channelClear r entry => Sys2Proof.Machine.execChannelClear r entry s
  | .channelDisable r entry => Sys2Proof.Machine.execChannelDisable r entry s
  | .channelEnable r entry => Sys2Proof.Machine.execChannelEnable r entry s
  | .channelGet r entry => Sys2Proof.Machine.execChannelGet r entry s
  | .setTime r value => Sys2Proof.Machine.execSetTime r value s
  | .position r lat lon => Sys2Proof.Machine.execPosition r lat lon s
  | .areaSet r area args => Sys2Proof.Machine.execAreaSet r area args s
  | .areaClear r area => Sys2Proof.Machine.execAreaClear r area s
  | .areaGet r area => Sys2Proof.Machine.execAreaGet r area s
  | .fixStatus r => Sys2Proof.Machine.execFixStatus r s
  | .callNow r station => Sys2Proof.Machine.execCallNow r station s
  | .watchStation r station => Sys2Proof.Machine.execWatchStation r station s
  | .acceptSet r code addressing value => Sys2Proof.Machine.execAcceptSet r code addressing value s
  | .acceptGet r => Sys2Proof.Machine.execAcceptGet r s
  | .scheduleSet r entry args => Sys2Proof.Machine.execScheduleSet r entry args s
  | .scheduleClear r entry => Sys2Proof.Machine.execScheduleClear r entry s
  | .scheduleGet r entry => Sys2Proof.Machine.execScheduleGet r entry s
  | .areaWatch r areas => Sys2Proof.Machine.execAreaWatch r areas s
  | .bulletinRegister r start => Sys2Proof.Machine.execBulletinRegister r start s
  | .speciesSet r entry code quota => Sys2Proof.Machine.execSpeciesSet r entry code quota s
  | .speciesClear r entry => Sys2Proof.Machine.execSpeciesClear r entry s
  | .speciesGet r entry => Sys2Proof.Machine.execSpeciesGet r entry s
  | .factorSet r code form factor => Sys2Proof.Machine.execFactorSet r code form factor s
  | .factorClear r code form => Sys2Proof.Machine.execFactorClear r code form s
  | .factorGet r start => Sys2Proof.Machine.execFactorGet r start s
  | .postCatch r haul code form weight kind => Sys2Proof.Machine.execPostCatch r haul code form weight kind s
  | .reportTimeSet r minute => Sys2Proof.Machine.execReportTimeSet r minute s
  | .reportNow r => Sys2Proof.Machine.execReportNow r s
  | .tripStart r => Sys2Proof.Machine.execTripStart r s
  | .tally r start => Sys2Proof.Machine.execTally r start s
  | .distress r nature persons => Sys2Proof.Machine.execDistress r nature persons s
  | .distressCancel r => Sys2Proof.Machine.execDistressCancel r s
  | .distressClose r => Sys2Proof.Machine.execDistressClose r s
  | .alarmAck r serial => Sys2Proof.Machine.execAlarmAck r serial s
  | .distressList r => Sys2Proof.Machine.execDistressList r s
  | .radioRestore r => Sys2Proof.Machine.execRadioRestore r s
  | .radioStatus r => Sys2Proof.Machine.execRadioStatus r s
  | .grantSet r port map => Sys2Proof.Machine.execGrantSet r port map s
  | .distressLevelSet r level => Sys2Proof.Machine.execDistressLevelSet r level s
  | .shipSet r number name callSign => Sys2Proof.Machine.execShipSet r number name callSign s
  | .routeSet r kinds => Sys2Proof.Machine.execRouteSet r kinds s
  | .poll r => Sys2Proof.Machine.execPoll r s
  | .status r => Sys2Proof.Machine.execStatus r s
  | .saveSettings r => Sys2Proof.Machine.execSaveSettings r s
  | .restart r => Sys2Proof.Machine.execRestart r s
  | .unknownRequest r kind => Sys2Proof.Machine.execUnknownRequest r kind s
  | .badFrame port => Sys2Proof.Machine.execBadFrame port s
  | .consoleInterByteTimeout port => Sys2Proof.Machine.execConsoleInterByteTimeout port s
  | .outputFrameSent port => Sys2Proof.Machine.execOutputFrameSent port s
  | .callBurst path station ship purpose waiting => Sys2Proof.Machine.execCallBurst path station ship purpose waiting s
  | .acceptBurst path station ship => Sys2Proof.Machine.execAcceptBurst path station ship s
  | .rejectBurst path station ship reason => Sys2Proof.Machine.execRejectBurst path station ship reason s
  | .volleyBurst path header frames => Sys2Proof.Machine.execVolleyBurst path header frames s
  | .tallyBurst path t => Sys2Proof.Machine.execTallyBurst path t s
  | .clearBurst path reason => Sys2Proof.Machine.execClearBurst path reason s
  | .collectiveBurst path c kind => Sys2Proof.Machine.execCollectiveBurst path c kind s
  | .collectiveDirectiveBurst path c => Sys2Proof.Machine.execCollectiveDirectiveBurst path c s
  | .alertBurst path a => Sys2Proof.Machine.execAlertBurst path a s
  | .badBurst path => Sys2Proof.Machine.execBadBurst path s
  | .carrierDrop path cut => Sys2Proof.Machine.execCarrierDrop path cut s
  | .mainTuneAnswer check tag result => Sys2Proof.Machine.execMainTuneAnswer check tag result s
  | .watchTuneAnswer check tag result => Sys2Proof.Machine.execWatchTuneAnswer check tag result s
  | .linkInterByteTimeout input => Sys2Proof.Machine.execLinkInterByteTimeout input s
  | .controlCommandSent => Sys2Proof.Machine.execControlCommandSent s
  | .positionRecord check mark lat lon => Sys2Proof.Machine.execPositionRecord check mark lat lon s
  | .distressLineAsserted => Sys2Proof.Machine.execDistressLineAsserted s
  | .distressLineReleased => Sys2Proof.Machine.execDistressLineReleased s
  | .holdTimerExpiry => Sys2Proof.Machine.execHoldTimerExpiry s
  | .granted => Sys2Proof.Machine.execGranted s
  | .alertListenSlotExpiry => Sys2Proof.Machine.execAlertListenSlotExpiry s
  | .alertCycleWaitExpiry => Sys2Proof.Machine.execAlertCycleWaitExpiry s
  | .nextCallTimeExpiry entry => Sys2Proof.Machine.execNextCallTimeExpiry entry s
  | .listenWindowExpiry => Sys2Proof.Machine.execListenWindowExpiry s
  | .quarterHour => Sys2Proof.Machine.execQuarterHour s
  | .awaitFirstWaitExpiry => Sys2Proof.Machine.execAwaitFirstWaitExpiry s
  | .tallyWindowExpiry => Sys2Proof.Machine.execTallyWindowExpiry s
  | .clearingWaitExpiry => Sys2Proof.Machine.execClearingWaitExpiry s
  | .receiveWindowExpiry => Sys2Proof.Machine.execReceiveWindowExpiry s
  | .silenceEnd => Sys2Proof.Machine.execSilenceEnd s
  | .scheduleEntryDue entry => Sys2Proof.Machine.execScheduleEntryDue entry s
  | .windowEnd entry => Sys2Proof.Machine.execWindowEnd entry s
  | .reportTimeDue => Sys2Proof.Machine.execReportTimeDue s
  | .retryTimerExpiry => Sys2Proof.Machine.execRetryTimerExpiry s
  | .overdueTimerExpiry msg => Sys2Proof.Machine.execOverdueTimerExpiry msg s
  | .tallyWriteEnd result => Sys2Proof.Machine.execTallyWriteEnd result s
  | .settingsWriteEnd result => Sys2Proof.Machine.execSettingsWriteEnd result s
  | .positionAgeExpiry => Sys2Proof.Machine.execPositionAgeExpiry s
  | .mainTuneTimerExpiry => Sys2Proof.Machine.execMainTuneTimerExpiry s
  | .watchTuneTimerExpiry => Sys2Proof.Machine.execWatchTuneTimerExpiry s
  | .dwellExpiry => Sys2Proof.Machine.execDwellExpiry s
  | .idleDwellExpiry => Sys2Proof.Machine.execIdleDwellExpiry s
  | .keyUpTimeExpiry => Sys2Proof.Machine.execKeyUpTimeExpiry s
  | .burstEnd => Sys2Proof.Machine.execBurstEnd s
  | .syncWordMatch path => Sys2Proof.Machine.execSyncWordMatch path s
  | .undefinedBurstKind path => Sys2Proof.Machine.execUndefinedBurstKind path s
  | .consoleStartByte port => Sys2Proof.Machine.execConsoleStartByte port s
  | .huntingByteDiscarded port => Sys2Proof.Machine.execHuntingByteDiscarded port s
  | .linkStartByte input => Sys2Proof.Machine.execLinkStartByte input s
  | .powerLoss => Sys2Proof.Machine.execPowerLoss s

end Sys2Proof.Machine
end

