-- ==== Sys2Proof/Machine/Step.lean ====
section
/-! DEFINITION. A step of the part: the command at the front of the queue, or on an empty queue the passing of time (log
entry 1). -/

namespace Sys2Proof.Machine

/-- A timer is armed and its target has passed (R42). -/
def State.expired (s : State) (timer : Option Time) : Bool := timer.any (passed s.time.now)

/-- The command of an event that is due, or none. -/
def dueIf (b : Bool) (c : Instr) : List Instr := if b then [c] else []

/-- The events of the link engine, the directive handler and the broadcast receiver that are due. -/
def State.dueTraffic (s : State) : List Instr :=
  ((s.dir.stations.map (·.1)).filter fun n => s.expired (s.callTimer n)).map Instr.nextCallTimeExpiry ++
    dueIf (s.expired (s.link.round.bind (·.listen))) .listenWindowExpiry ++
    dueIf (s.expired (s.link.await.bind (·.wait))) .awaitFirstWaitExpiry ++
    dueIf (s.expired (s.link.session.bind (·.tallyWin))) .tallyWindowExpiry ++
    dueIf (s.expired (s.link.session.bind (·.clearWait))) .clearingWaitExpiry ++
    dueIf (s.expired (s.link.session.bind (·.receiveWin))) .receiveWindowExpiry ++
    dueIf (s.expired (s.handler.silence.map (·.endTime))) .silenceEnd ++
    ((s.bcast.windows.filter fun w => passed s.time.now w.endTime).map (·.entry)).map Instr.windowEnd

/-- The events of the distress unit that are due: GRANTED, and its timers. -/
def State.dueDistress (s : State) : List Instr :=
  dueIf s.distress.granted .granted ++ dueIf (s.expired s.distress.holdTimer) .holdTimerExpiry ++
    dueIf (s.expired s.distress.slot) .alertListenSlotExpiry ++
    dueIf (s.expired s.distress.nextCycle) .alertCycleWaitExpiry

/-- The events of the radios that are due. -/
def State.dueRadio (s : State) : List Instr :=
  dueIf (s.expired (s.main.flight.bind (·.timer))) .mainTuneTimerExpiry ++
    dueIf (s.expired (s.watch.flight.bind (·.timer))) .watchTuneTimerExpiry ++
    dueIf (s.expired (s.dwellTimer .dwelling)) .dwellExpiry ++
    dueIf (s.expired (s.dwellTimer .idleDwell)) .idleDwellExpiry

/-- The events of the fix and of the report that are due, and the calendar entries (R43). -/
def State.dueCalendar (s : State) : List Instr :=
  dueIf (s.expired s.ageTimer) .positionAgeExpiry ++ dueIf (s.expired s.catch_.deferral) .retryTimerExpiry ++
    ((s.catch_.overdue.filter fun e => passed s.time.now e.2).map (·.1)).map Instr.overdueTimerExpiry ++
    ((s.bcast.schedule.filter fun e => calendarDue s.time.source s.time.now e.2.cfg.start e.2.lastTaken).map
      (·.1)).map Instr.scheduleEntryDue ++
    dueIf (calendarDue s.time.source s.time.now s.catch_.reportTime s.catch_.reportTaken) .reportTimeDue

/-- The events that are due at the present second (log entry 1). -/
def State.dueEvents (s : State) : List Instr :=
  match s.phase with
  | .off => []
  | .loading => [.loadingEnd]
  | .running => s.dueDistress ++ s.dueRadio ++ s.dueTraffic ++ s.dueCalendar

/-- A second passes; a quarter hour is an event while the call watch is held (R41, R72). -/
def State.tick (s : State) : State :=
  let now := s.time.now + 1
  let quarter := decide (now.toNat % 900 = 0) && s.holds_ .watch
  { s with time.now := now, pending := dueIf quarter .quarterHour }

/-- What the part does with no command waiting: it takes the first event that is due, or a second passes; a part that is
off does nothing (log entry 1). -/
def State.idle (s : State) : State :=
  if s.phase = .off then s
  else match s.dueEvents with
    | c :: _ => { s with pending := [c] }
    | [] => s.tick

/-- One step: the command at the front of the queue is taken. -/
def step (s : State) : Host.Outcome State Fault Refusal :=
  match s.pending with
  | [] => .next s.idle
  | c :: rest => exec c { s with pending := rest }

/-- The state with the command that a word spells at the front of its queue; no word spells a command, since the table
gives no bits. -/
def State.withFetchWord (s : State) (nbits w : Nat) : State :=
  match decodeTableWord nbits w with
  | some c => { s with pending := c :: s.pending }
  | none => s

end Sys2Proof.Machine
end

