-- ==== Sys2Proof/Safety.lean ====
section
/-! DEFINITION. The words of the statements: the invariants between commands, the requests and their checks, the answer and
the notices as the ports take them, and what the exchange of messages between blocks leaves alone. -/

namespace Sys2Proof.Machine

/-! ### The invariants -/

/-- Between commands no message and no notice is left, and a path that is held stands in SEARCHING (R188). -/
abbrev State.Settled (s : State) : Prop :=
  s.msgs = [] ∧ s.raised = [] ∧ (s.mainHeld = true → s.mainPath = .searching) ∧
    (s.watchHeld = true → s.watchPath = .searching)

/-- The free pages and the page lists of the records are together the pages 0 to 1023, each once (R1); at most 128 records
are held, under rising numbers, so none twice, from 1 to 65535, and the counter is such a number (R3, R5); STORE-LOW is armed
only while 128 pages are free, and disarmed only while fewer than 192 are (R9). -/
abbrev State.StoreSound (s : State) : Prop :=
  (s.store.free ++ (s.store.recs.map fun e => e.2.pages).flatten).Perm (List.range 1024) ∧
    s.store.recs.length ≤ 128 ∧ s.store.recs.wf = true ∧ (∀ e ∈ s.store.recs, 1 ≤ e.1 ∧ e.1 ≤ 65535) ∧
    1 ≤ s.store.next ∧ s.store.next ≤ 65535 ∧ (s.store.lowArmed = true → 128 ≤ s.store.free.length) ∧
    (s.store.lowArmed = false → s.store.free.length < 192)

/-- At most 64 log entries are held, with consecutive numbers up to the one before the counter (R23, R24). -/
abbrev State.LogSound (s : State) : Prop :=
  s.log.entries.length ≤ 64 ∧
    s.log.entries.map (·.number) =
      (List.range s.log.entries.length).map fun i => s.log.next - BitVec.ofNat 16 (s.log.entries.length - i)

/-- Stations and channels stand under rising entry numbers, no two stations with one station number, at most one station
carries AUTHORITY, at most six channels have use DISTRESS, and every Q is at most 1000 (R27, R32, R36). -/
abbrev State.DirectorySound (s : State) : Prop :=
  s.dir.stations.wf = true ∧ s.dir.channels.wf = true ∧ (s.dir.stations.map fun e => e.2.cfg.number).Nodup ∧
    (s.dir.stations.filter fun e => e.2.cfg.authority).length ≤ 1 ∧
    (s.dir.channels.filter fun e => e.2.cfg.use == .distress).length ≤ 6 ∧ ∀ e ∈ s.dir.channels, e.2.q ≤ 1000

/-- At most 64 register entries are held, no two with one identity (R133). -/
abbrev State.RegisterSound (s : State) : Prop :=
  s.bcast.register.length ≤ 64 ∧ (s.bcast.register.map (·.identity)).Nodup

/-- At most 16 entries are on the distress list, and at most one of them that is not CANCELLED for a ship (R175). -/
abbrev State.DistressListSound (s : State) : Prop :=
  s.distress.list.length ≤ 16 ∧ ((s.distress.list.filter fun e => e.state != .cancelled).map (·.ship)).Nodup

/-- At most 64 tally rows are held in their order, so none of a species and area twice, and in each day total ≤ trip total
≤ 99,999,999 (R141). -/
abbrev State.TallySound (s : State) : Prop :=
  s.catch_.rows.length ≤ 64 ∧ rowsSorted s.catch_.rows = true ∧
    ∀ r ∈ s.catch_.rows, r.day ≤ r.trip ∧ r.trip ≤ 99999999

/-- Waiting claims stand by class, none twice, none that holds, and none of a session, which is only raised (R191, R196); a
yield is asked only of a session behind which a MUST claim waits (R194). -/
abbrev State.ArbiterSound (s : State) : Prop :=
  waitingSorted s.arb.waiting = true ∧ s.arb.waiting.Nodup ∧ (∀ h, s.arb.holder = some h → h ∉ s.arb.waiting) ∧
    .session ∉ s.arb.waiting ∧ (s.arb.yieldAsked = true → s.arb.holder = some .session ∧ mustWaits s.arb.waiting = true)

/-! ### Requests -/

/-- The kind and the frame of a command that is a request. -/
def requestOf : Instr → Option (ReqKind × Req)
  | .create r .. => some (.create, r)
  | .append r .. => some (.append, r)
  | .submit r .. => some (.submit, r)
  | .withdraw r .. => some (.withdraw, r)
  | .delete r .. => some (.delete, r)
  | .list r .. => some (.list, r)
  | .read r .. => some (.read, r)
  | .keepSet r .. => some (.keepSet, r)
  | .keepClear r .. => some (.keepClear, r)
  | .readLog r .. => some (.readLog, r)
  | .stationSet r .. => some (.stationSet, r)
  | .stationClear r .. => some (.stationClear, r)
  | .stationGet r .. => some (.stationGet, r)
  | .holdStation r .. => some (.holdStation, r)
  | .releaseStation r .. => some (.releaseStation, r)
  | .channelSet r .. => some (.channelSet, r)
  | .channelClear r .. => some (.channelClear, r)
  | .channelDisable r .. => some (.channelDisable, r)
  | .channelEnable r .. => some (.channelEnable, r)
  | .channelGet r .. => some (.channelGet, r)
  | .setTime r .. => some (.setTime, r)
  | .position r .. => some (.position, r)
  | .areaSet r .. => some (.areaSet, r)
  | .areaClear r .. => some (.areaClear, r)
  | .areaGet r .. => some (.areaGet, r)
  | .fixStatus r => some (.fixStatus, r)
  | .callNow r .. => some (.callNow, r)
  | .watchStation r .. => some (.watchStation, r)
  | .acceptSet r .. => some (.acceptSet, r)
  | .acceptGet r => some (.acceptGet, r)
  | .scheduleSet r .. => some (.scheduleSet, r)
  | .scheduleClear r .. => some (.scheduleClear, r)
  | .scheduleGet r .. => some (.scheduleGet, r)
  | .areaWatch r .. => some (.areaWatch, r)
  | .bulletinRegister r .. => some (.bulletinRegister, r)
  | .speciesSet r .. => some (.speciesSet, r)
  | .speciesClear r .. => some (.speciesClear, r)
  | .speciesGet r .. => some (.speciesGet, r)
  | .factorSet r .. => some (.factorSet, r)
  | .factorClear r .. => some (.factorClear, r)
  | .factorGet r .. => some (.factorGet, r)
  | .postCatch r .. => some (.postCatch, r)
  | .reportTimeSet r .. => some (.reportTimeSet, r)
  | .reportNow r => some (.reportNow, r)
  | .tripStart r => some (.tripStart, r)
  | .tally r .. => some (.tally, r)
  | .distress r .. => some (.distress, r)
  | .distressCancel r => some (.distressCancel, r)
  | .distressClose r => some (.distressClose, r)
  | .alarmAck r .. => some (.alarmAck, r)
  | .distressList r => some (.distressList, r)
  | .radioRestore r => some (.radioRestore, r)
  | .radioStatus r => some (.radioStatus, r)
  | .grantSet r .. => some (.grantSet, r)
  | .distressLevelSet r .. => some (.distressLevelSet, r)
  | .shipSet r .. => some (.shipSet, r)
  | .routeSet r .. => some (.routeSet, r)
  | .poll r => some (.poll, r)
  | .status r => some (.status, r)
  | .saveSettings r => some (.saveSettings, r)
  | .restart r => some (.restart, r)
  | .unknownRequest r kind => some (.other kind, r)
  | _ => none

/-- The part runs, and the request passes the checks of R200 and the settings-save check of R211. -/
abbrev State.Passes (s : State) (k : ReqKind) (r : Req) : Prop :=
  s.phase = .running ∧ r.fits = true ∧ k.grant.all (s.holds r.port) = true ∧
    (s.ports.get r.port).outQ.length < Config.queueFull ∧ (k.image = true → s.settings.saveState = .idle)

/-- The request's frame has been received: its port's receiver hunts again (R199). -/
def State.taken (s : State) (r : Req) : State :=
  { s with ports := s.ports.set r.port (s.ports.get r.port).frameEnds }

/-- Each port takes the notices, in the order in which they were raised (R201, R206). -/
def State.noticed (s : State) (ns : List Notice) : State := { s with ports := s.ports.map (PortState.takeAll ns) }

/-- The request's frame has been received, its answer has joined its port's queue, and after it the notices have gone to
every port (R199, R201). -/
def State.answered (s : State) (k : ReqKind) (r : Req) (a : Answer) (ns : List Notice) : State :=
  ((s.taken r).reply k r a).noticed ns

/-- The end of a request whose own effects have left `t`: the blocks work off what those effects set going, the answer
joins its port's queue, and the notices follow it. -/
def State.afterRequest (s : State) (k : ReqKind) (r : Req) (t : State) (a : Answer) : State :=
  (t.work.reply k r a).seal s.pending

/-- The end of an event whose own effects have left `t`: the blocks work off what those effects set going, and the notices
are delivered. -/
def State.afterEvent (s t : State) : State := t.work.seal s.pending

/-- The end of an event that concerns one block and has left `t`: the notices are delivered. -/
def State.afterLocal (s t : State) : State := t.seal s.pending

/-! ### What the exchange of messages between blocks leaves alone -/

/-- Messages whose handling changes no record of the store. -/
def Msg.mild : Msg → Bool
  | .granted _ | .refused _ | .yieldAsked | .higherWaiting | .backInService | .tuned .. | .dueTest => true
  | .revoked .. | .radioOut | .burstEnded _ => false

/-- A station entry without its pacing. -/
def Station.calm (st : Station) : Station := { st with k := 0, nextCall := none, nextCallArmed := false, noChannel := false }

/-- The alert record without its cycle. -/
def Distress.calm (d : Distress) : Distress :=
  { d with
    state := .quiet, serial := 0, rotPos := 0, nextCycle := none, lamp := false, slot := none, granted := false
    rotating := false, awaitTune := false, onAir := false, sent := 0, logEntry := none, releaseAfter := false
    cancelAfter := false, grantAfter := false }

/-- The time unit without its random generator. -/
def TimeUnit.calm (t : TimeUnit) : TimeUnit := { t with prng := 0 }

/-- What mild messages leave alone: all but the link engine, the windows, the alert cycle, airtime, the main radio, the
control link, the log and the pacing of calls. -/
def State.calm (s : State) : State :=
  { s with
    msgs := s.msgs.filter (fun m => !m.mild), raised := [], log := { entries := [], next := 0 }
    dir.stations := s.dir.stations.mapVals Station.calm
    time := s.time.calm, link := { LinkEngine.initial with watchStation := s.link.watchStation }, bcast.windows := []
    distress := s.distress.calm, arb := { holder := none, waiting := [], yieldAsked := false }, main := .initial
    ctl := { tag := 0, cmds := [] } }

/-- What every message leaves alone: as `calm`, but for the message store and what follows its records. -/
def State.frame (s : State) : State :=
  { s.calm with msgs := [], store := .initial, bcast.register := [], catch_.overdue := [] }

end Sys2Proof.Machine
end

