-- ==== Sys2Proof/Certificates/Slice0/Obligations.lean ====
section
/-! DEFINITION. The statements for the provers, each formalising rules of spec/ or a stated choice of the model. -/

section

open Sys2Proof Sys2Proof.Machine

/-- A step takes the command at the front of the queue and runs it on the rest. -/
def Obligations.StepTakesFrontCommand : Prop :=
  ∀ (c : Instr) (rest : List Instr) (s : State),
    step { s with pending := c :: rest } = exec c { s with pending := rest }

/-- With no command waiting the first event that is due becomes the next command, else a second passes; LOADING-END is due
while loading, and in a running part GRANTED, each armed timer whose target has passed, and each due calendar entry. The
model's choice (log entry 1): this passing of time, and the order of the events that are due in one second. -/
def Obligations.EmptyQueueLetsTimePass : Prop :=
  (∀ s : State, s.pending = [] →
    (s.phase = .off → step s = .next s) ∧
    (s.phase ≠ .off → ∀ c l, s.dueEvents = c :: l → step s = .next { s with pending := [c] }) ∧
    (s.phase ≠ .off → s.dueEvents = [] →
      step s = .next { s with
        time.now := s.time.now + 1
        pending := if (s.time.now + 1).toNat % 900 = 0 ∧ s.arb.holder = some .watch then [.quarterHour] else [] })) ∧
  ∀ s : State,
    let now := s.time.now
    let past (target : Time) : Bool := decide ((now - target).toNat < 2 ^ 31)
    let expired (timer : Option Time) : Bool := timer.any past
    let one (b : Bool) (c : Instr) : List Instr := if b then [c] else []
    let dwell (d : DwellState) : Bool := s.watch.dwell == d && expired s.watch.timer
    let latest (minute : Nat) : Int :=
      if minute * 60 ≤ now.toNat % 86400 then (now.toNat / 86400 : Nat) else (now.toNat / 86400 : Nat) - 1
    let calendar (minute : Nat) (lastTaken : Option Int) : Bool :=
      s.time.source != .unset && lastTaken.all fun d => decide (d < latest minute)
    (s.phase = .off → s.dueEvents = []) ∧ (s.phase = .loading → s.dueEvents = [.loadingEnd]) ∧
    (s.dir.stations.wf = true → s.phase = .running → s.dueEvents =
      one s.distress.granted .granted ++ one (expired s.distress.holdTimer) .holdTimerExpiry ++
      one (expired s.distress.slot) .alertListenSlotExpiry ++ one (expired s.distress.nextCycle) .alertCycleWaitExpiry ++
      one (expired (s.main.flight.bind (·.timer))) .mainTuneTimerExpiry ++
      one (expired (s.watch.flight.bind (·.timer))) .watchTuneTimerExpiry ++
      one (dwell .dwelling) .dwellExpiry ++ one (dwell .idleDwell) .idleDwellExpiry ++
      ((s.dir.stations.filter fun e => e.2.nextCallArmed && expired e.2.nextCall).map fun e => .nextCallTimeExpiry e.1) ++
      one (expired (s.link.round.bind (·.listen))) .listenWindowExpiry ++
      one (expired (s.link.await.bind (·.wait))) .awaitFirstWaitExpiry ++
      one (expired (s.link.session.bind (·.tallyWin))) .tallyWindowExpiry ++
      one (expired (s.link.session.bind (·.clearWait))) .clearingWaitExpiry ++
      one (expired (s.link.session.bind (·.receiveWin))) .receiveWindowExpiry ++
      one (expired (s.handler.silence.map (·.endTime))) .silenceEnd ++
      ((s.bcast.windows.filter fun w => past w.endTime).map fun w => .windowEnd w.entry) ++
      one (s.time.fix.any fun f => f.ageArmed && past (f.time + 601)) .positionAgeExpiry ++
      one (expired s.catch_.deferral) .retryTimerExpiry ++
      ((s.catch_.overdue.filter fun e => past e.2).map fun e => .overdueTimerExpiry e.1) ++
      ((s.bcast.schedule.filter fun e => calendar e.2.cfg.start e.2.lastTaken).map fun e => .scheduleEntryDue e.1) ++
      one (calendar s.catch_.reportTime s.catch_.reportTaken) .reportTimeDue)

/-- Every command answers a next state and leaves the queue of commands as it was; a part that is off takes no command
but power and the distress line. The model's choice (log entry 3): that commands are offered to a part that is off. -/
def Obligations.EveryCommandCompletes : Prop :=
  (∀ (c : Instr) (s : State), ∃ t, exec c s = .next t ∧ t.pending = s.pending) ∧
  (∀ (c : Instr) (s : State), s.phase = .off →
    (c = .distressLineAsserted → exec c s = .next { s with distress.line := true }) ∧
    (c = .distressLineReleased → exec c s = .next { s with distress.line := false }) ∧
    ((∀ a b d, c ≠ .powerOn a b d) → c ≠ .powerLoss → c ≠ .distressLineAsserted → c ≠ .distressLineReleased →
      exec c s = .next s))

/-- The values of the part right after power-on with a blank serial memory, before loading ends. The model's choice
(log entries 2, 3): the straps at 0, the line released and the blank serial memory. -/
def Obligations.ResetValues : Prop :=
  let s := State.reset
  s.pending = [] ∧ s.phase = .loading ∧
    s.time.now = 0 ∧ s.time.source = .unset ∧ s.time.prng = 1000000 ∧ s.time.fix = none ∧ s.time.areaSet = none ∧
    s.store.free = List.range 1024 ∧ s.store.recs = [] ∧ s.store.next = 1 ∧ s.store.lowArmed = true ∧
    s.log.entries = [] ∧ s.log.next = 0 ∧ s.dir.stations = [] ∧ s.dir.channels = [] ∧
    s.link.state = .idle ∧ s.link.watchStation = none ∧ s.link.session = none ∧
    s.handler.silence = none ∧ s.handler.last = none ∧ s.handler.serial = 0 ∧ s.handler.recent = [] ∧
    s.bcast.schedule = [] ∧ s.bcast.windows = [] ∧ s.bcast.register = [] ∧
    s.catch_.rows = [] ∧ s.catch_.spanStart = none ∧ s.catch_.reportTime = 1380 ∧
    s.distress.state = .quiet ∧ s.distress.serial = 0 ∧ s.distress.list = [] ∧ s.distress.alarm = false ∧
    s.distress.highest = 0 ∧ s.arb.holder = none ∧ s.arb.waiting = [] ∧
    s.main.tuned = none ∧ s.main.keyed = false ∧ s.main.faults = 0 ∧ s.main.inService = true ∧
    s.watch.pos = 0 ∧ s.watch.tuned = none ∧ s.watch.faults = 0 ∧ s.watch.inService = true ∧
    (∀ p, s.ports.get p = ⟨0, 0, true, true, false, [], 0xFFFF, 0, false, 0⟩) ∧
    s.settings.identity.number = 1000000 ∧ s.settings.defaulted = true ∧ s.settings.distressLevel = 3 ∧
    s.settings.saveState = .idle ∧ s.settings.lastSave = .none

/-- Every invariant of the step lemmas holds after reset. -/
def Obligations.ResetMeetsInvariants : Prop :=
  State.reset.Settled ∧ State.reset.StoreSound ∧ State.reset.LogSound ∧ State.reset.DirectorySound ∧
    State.reset.RegisterSound ∧ State.reset.DistressListSound ∧ State.reset.TallySound ∧ State.reset.ArbiterSound

/-- Every step keeps the invariant: nothing is left over between commands and a path that is held stands in SEARCHING.
-/
def Obligations.StepKeepsSettled : Prop :=
  ∀ s t : State, s.Settled → step s = .next t → t.Settled

/-- Every step keeps the message store sound: 1,024 pages, none twice; at most 128 records, numbers unique and from 1
to 65535; STORE-LOW armed only with 128 pages free and disarmed only with fewer than 192. -/
def Obligations.StepKeepsStoreSound : Prop :=
  ∀ s t : State, s.StoreSound → step s = .next t → t.StoreSound

/-- Every step keeps at most 64 log entries with consecutive numbers, unique station numbers, one AUTHORITY, six
DISTRESS channels, and Q at most 1000. -/
def Obligations.StepKeepsLogAndDirectorySound : Prop :=
  (∀ s t : State, s.LogSound → step s = .next t → t.LogSound) ∧
  ∀ s t : State, s.DirectorySound → step s = .next t → t.DirectorySound

/-- Every step keeps the register at most 64 unique identities, the distress list at most 16 with one live entry a
ship, and the tally within its bounds. -/
def Obligations.StepKeepsListsSound : Prop :=
  (∀ s t : State, s.RegisterSound → step s = .next t → t.RegisterSound) ∧
  (∀ s t : State, s.DistressListSound → step s = .next t → t.DistressListSound) ∧
  ∀ s t : State, s.TallySound → step s = .next t → t.TallySound

/-- Every step keeps the waiting list by class, no claim twice, the holder out of it, and a yield asked only of a
session before a MUST claim. -/
def Obligations.StepKeepsArbiterSound : Prop :=
  ∀ s t : State, s.ArbiterSound → step s = .next t → t.ArbiterSound

/-- Every request is answered once, with its tag and kind, before the notices of its effects, and no other port gets
an answer. -/
def Obligations.RequestAnsweredOnce : Prop :=
  ∀ (c : Instr) (k : ReqKind) (r : Req) (s : State), requestOf c = some (k, r) → s.phase ≠ .off →
    ∃ t a, exec c s = .next t ∧
      (∃ ns : List Notice, (t.ports.get r.port).outQ =
        (s.ports.get r.port).outQ ++ OutFrame.answer r.tag k a :: ns.map OutFrame.notice) ∧
      ∀ p, p ≠ r.port → ∃ ns : List Notice, (t.ports.get p).outQ = (s.ports.get p).outQ ++ ns.map OutFrame.notice

/-- The checks of R200 are made in order; a request that fails one, an unknown kind among them, is answered and
changes nothing. The model's choice (log entry 59): IN-USE during a save comes before every check of the rule of the
request. -/
def Obligations.RequestChecksInOrder : Prop :=
  ∀ (c : Instr) (k : ReqKind) (r : Req) (s : State), requestOf c = some (k, r) → s.Settled →
    (s.phase = .loading → exec c s = .next (s.answered k r (plain .starting) [])) ∧
    (s.phase = .running →
      (∀ n, k = .other n → exec c s = .next (s.answered k r (plain .unknownKind) [])) ∧
      ((∀ n, k ≠ .other n) →
        (r.fits = false → exec c s = .next (s.answered k r (plain .badArgument) [])) ∧
        (r.fits = true → k.grant.all (s.holds r.port) = false →
          exec c s = .next (s.answered k r (plain .refusedGrant) [])) ∧
        (r.fits = true → k.grant.all (s.holds r.port) = true → 64 ≤ (s.ports.get r.port).outQ.length →
          exec c s = .next (s.answered k r (plain .inUse) [])) ∧
        (r.fits = true → k.grant.all (s.holds r.port) = true → (s.ports.get r.port).outQ.length < 64 →
          k.image = true → s.settings.saveState ≠ .idle → exec c s = .next (s.answered k r (plain .inUse) []))))

/-- What the exchange of messages between blocks does and leaves alone: one handler for each message, in turn, and the
tunes that blocks ask for. The model's choice (log entries 5, 60): at most 512 messages in one event, and the due test
comes before the claim of the call watch. -/
def Obligations.ExchangeFrame : Prop :=
  (∀ s : State, s.work.frame = s.frame ∧ (s.msgs.all Msg.mild = true → s.work.calm = s.calm)) ∧
  (∀ s : State,
    let idle : Prop := s.link.state = .idle
    let engaged : Prop := s.link.state ≠ .idle ∧ s.link.state ≠ .calling
    let watched : Prop := ∃ n st, s.link.watchStation = some n ∧ s.stationOf n = some st
    let barred : Prop := s.distress.state = .pending ∨ s.distress.state = .alerting ∨ s.distress.state = .cancelling
    let stale : Prop := ∃ r, s.link.round = some r ∧ r.phase = .claiming ∧
      ∀ st, s.stationOf r.station = some st → s.due st = false
    let waits : Prop := Claim.watch ∈ s.arb.waiting
    let holds : Prop := s.arb.holder = some .watch
    let claims : Prop := idle ∧ watched ∧ ¬barred ∧ s.main.inService = true ∧ ¬holds ∧ ¬waits
    let leaves : Prop := idle ∧ ¬watched ∧ (holds ∨ waits)
    (s.work = s.settle 512 ∧ s.settle 0 = s ∧ ∀ k,
      (∀ m rest, s.msgs = m :: rest → s.settle (k + 1) = (({ s with msgs := rest } : State).handle m).settle k) ∧
      (s.msgs = [] → (s.attend = none → s.settle (k + 1) = s) ∧
        ∀ t, s.attend = some t → s.settle (k + 1) = t.settle k)) ∧
    (s.handle .dueTest = s.dueTest ∧ s.handle .yieldAsked = s.onYieldAsked ∧ s.handle .radioOut = s.radioOutOfService ∧
      (idle → s.handle .higherWaiting = s.giveWay ∧ s.handle .backInService = s.claimWatch.dueTest) ∧
      (¬idle → s.handle .higherWaiting = s ∧ s.handle .backInService = s)) ∧
    ((∀ n m p w, s.handle (.burstEnded (.call n m p w)) = s.callSent) ∧
      (∀ n m, s.handle (.burstEnded (.accept n m)) = s.acceptSent) ∧
      (∀ n m why, s.handle (.burstEnded (.reject n m why)) = s.rejectSent) ∧
      (∀ n len isOver first l, s.handle (.burstEnded (.volley n len isOver first l)) = s.volleySent) ∧
      (∀ t, s.handle (.burstEnded (.tally t)) = s.tallySent) ∧
      (∀ why, s.handle (.burstEnded (.clear why)) = s.clearSent why) ∧
      ∀ a, s.handle (.burstEnded (.alert a)) = s.alertSent) ∧
    (∀ c, s.arb.holder ≠ some c → s.handle (.granted c) = s ∧ ∀ ready out, s.handle (.tuned c ready out) = s) ∧
    (∀ c, s.arb.holder = some c →
      (c = .watch → s.handle (.granted c) = s.chooseWatch ∧ ∀ ready out, s.handle (.tuned c ready out) = s.watchTuned ready) ∧
      (c = .call → s.handle (.granted c) = s.callGranted ∧
        ∀ ready out, s.handle (.tuned c ready out) = s.callTuned ready out) ∧
      ((∃ n, c = .must n ∨ c = .optional n) → s.handle (.granted c) = s.windowGranted c ∧
        ∀ ready out, s.handle (.tuned c ready out) = s.windowTuned c ready) ∧
      (c = .distress → s.handle (.granted c) = s ∧ ∀ ready out, s.handle (.tuned c ready out) = s.alertTuned ready) ∧
      (c = .session → s.handle (.granted c) = s ∧ ∀ ready out, s.handle (.tuned c ready out) = s)) ∧
    (∀ cause n,
      (idle → s.handle (.revoked .watch cause) = s.linkRevoked cause) ∧ (¬idle → s.handle (.revoked .watch cause) = s) ∧
      (s.link.state = .calling → s.handle (.revoked .call cause) = s.linkRevoked cause ∧
        s.handle (.refused .call) = s.callRefused) ∧
      (s.link.state ≠ .calling → s.handle (.revoked .call cause) = s ∧ s.handle (.refused .call) = s) ∧
      (engaged → s.handle (.revoked .session cause) = s.linkRevoked cause) ∧
      (¬engaged → s.handle (.revoked .session cause) = s) ∧
      s.handle (.revoked (.must n) cause) = s.windowRevoked (.must n) cause ∧
      s.handle (.revoked (.optional n) cause) = s.windowRevoked (.optional n) cause ∧
      s.handle (.refused (.must n)) = s.windowRefused (.must n) ∧
      s.handle (.refused (.optional n)) = s.windowRefused (.optional n) ∧
      s.handle (.revoked .distress cause) = s ∧ s.handle (.refused .distress) = s ∧ s.handle (.refused .watch) = s ∧
      s.handle (.refused .session) = s) ∧
    (s.phase ≠ .running → s.attend = none) ∧
    (s.phase = .running →
      (stale → s.attend = some (s.giveUp .call).toIdle) ∧ (¬stale → claims → s.attend = some s.claimWatch) ∧
      (¬stale → leaves → s.attend = some (s.giveUp .watch)) ∧ (¬stale → ¬claims → ¬leaves → s.attend = none))) ∧
  (∀ (s : State) (ch : Nat) (c : Claim),
    let sent (t : State) (ch : Nat) (c : Claim) : State :=
      { t with
        ctl := {
          tag := t.ctl.tag + 1
          cmds := t.ctl.cmds ++ [{
            radio := .main, tag := t.ctl.tag, kind := .tune
            tx := (t.dir.channels.find ch).elim 0 fun (x : Channel) => x.cfg.tx
            rx := (t.dir.channels.find ch).elim 0 fun (x : Channel) => x.cfg.rx }] }
        main.flight := some { channel := ch, requester := some c, tag := t.ctl.tag, timer := none } }
    (s.main.flight ≠ none → s.tuneMain ch c = { s with main.nextTune := some (ch, c) } ∧ s.sendWaitingTune = s) ∧
    (s.main.flight = none →
      (s.main.tuned = some ch → s.tuneMain ch c = { s with msgs := s.msgs ++ [.tuned c true (!s.main.inService)] }) ∧
      (s.main.tuned ≠ some ch → s.tuneMain ch c = sent s ch c) ∧
      (s.main.nextTune = none → s.sendWaitingTune = s) ∧
      (s.main.nextTune = some (ch, c) → s.sendWaitingTune = sent { s with main.nextTune := none } ch c)))

/-- CREATE adds a draft with the fields of R14, reclaiming when fewer than 9 records are free; what it refuses changes
nothing. The model's choice (log entries 19, 59): BAD-ARGUMENT for an undefined precedence code; R14 names REPORT
alone, and an unknown station is refused before the precedence is tested. -/
def Obligations.CreateAddsDraft : Prop :=
  ∀ (s : State) (r : Req) (station precedence : Nat), s.Settled → s.Passes .create r →
    (s.knows station = false → exec (.create r station precedence) s = .next (s.answered .create r (plain .notFound) [])) ∧
    (s.knows station = true → (Prec.ofCode precedence = none ∨ Prec.ofCode precedence = some .report) →
      exec (.create r station precedence) s = .next (s.answered .create r (plain .badArgument) [])) ∧
    ∀ given : Prec, s.knows station = true → Prec.ofCode precedence = some given → given ≠ .report →
      let clamped := given = .distress ∧ s.distress.state ≠ .alerting ∧ s.distress.state ≠ .acknowledged
      let n := freeNumber s.store.recs (s.store.recs.length + 1) s.store.next
      let draft : MsgRec :=
        { cls := .traffic, dir := .outbound, prec := if clamped then .urgency else given, state := .draft,
          orig := .port r.port, peer := station, peerRef := none, created := s.time.now, textLen := 0, text := [],
          pages := [], attempts := 0, readMask := ⟨false, false, false⟩, keep := false, withdrawPending := false,
          delivered := none, identity := none, span := none, errFig := none }
      (9 ≤ s.freeRecords → exec (.create r station precedence) s =
        .next ({ s with store.recs := s.store.recs.put n draft, store.next := nextNumber n }.answered .create r
          (if clamped then ⟨.partly, .created n [.precedenceClamped]⟩ else ⟨.ok, .created n []⟩) [])) ∧
      (s.freeRecords < 9 →
        let u := (s.taken r).reclaimFor fun t => decide (9 ≤ t.freeRecords)
        let k := freeNumber u.store.recs (u.store.recs.length + 1) u.store.next
        (s.victim = none → exec (.create r station precedence) s = .next (s.answered .create r (plain .storeFull) [])) ∧
        (u.freeRecords < 9 → exec (.create r station precedence) s =
          .next ((u.reply .create r (plain .storeFull)).seal s.pending)) ∧
        (9 ≤ u.freeRecords → exec (.create r station precedence) s =
          .next (({ u with store.recs := u.store.recs.put k draft, store.next := nextNumber k }.reply .create r
            (if clamped then ⟨.partly, .created k [.precedenceClamped]⟩ else ⟨.ok, .created k []⟩)).seal s.pending)))

/-- APPEND adds normalised bytes, a page before each 64th, up to 3,072 bytes or as far as pages can be had, and tests
STORE-LOW. -/
def Obligations.AppendAddsText : Prop :=
  (∀ (s : State) (r : Req) (n : Nat) (bytes : List Byte) (m : MsgRec), s.Settled → s.Passes .append r →
    s.record n = some m → m.orig = .port r.port →
    (m.state ≠ .draft → exec (.append r n bytes) s = .next (s.answered .append r (plain .wrongState) [])) ∧
    (m.state = .draft → (bytes.length = 0 ∨ 200 < bytes.length) →
      exec (.append r n bytes) s = .next (s.answered .append r (plain .badArgument) [])) ∧
    (m.state = .draft → 1 ≤ bytes.length → bytes.length ≤ 200 →
      let held := (m.textLen + 63) / 64
      let pages (k : Nat) : Nat := (m.textLen + k + 63) / 64 - held
      let grown (k : Nat) (code : Code) (changes : List Change) : Host.Outcome State Fault Refusal :=
        let more := pages k
        let free := s.freePages - more
        let raised := s.store.lowArmed = true ∧ more ≠ 0 ∧ free < 128
        .next ({ s with
          store.free := s.store.free.drop more
          store.recs := s.store.recs.upd n fun m =>
            { m with
              text := m.text ++ (bytes.take k).map normByte, textLen := m.textLen + k
              pages := m.pages ++ s.store.free.take more }
          store.lowArmed := if more = 0 then s.store.lowArmed
            else if s.store.lowArmed then decide (128 ≤ free) else decide (192 ≤ s.freePages - 1) }.answered .append r
            ⟨code, .appended k ((bytes.take k).countP replacedByte) changes⟩ (if raised then [.storeLow] else []))
      let room := 3072 - m.textLen
      let affordable := (held + (s.freePages - 64)) * 64 - m.textLen
      (m.textLen + bytes.length ≤ 3072 → (pages bytes.length = 0 ∨ pages bytes.length + 64 ≤ s.freePages) →
        exec (.append r n bytes) s = grown bytes.length .ok []) ∧
      (3072 < m.textLen + bytes.length → m.textLen ≤ 3072 → (pages room = 0 ∨ pages room + 64 ≤ s.freePages) →
        exec (.append r n bytes) s = grown room .partly [.tooLong]) ∧
      (s.victim = none → affordable < bytes.length → m.textLen + affordable < 3072 →
        exec (.append r n bytes) s = grown affordable .storeFull []) ∧
      (let run := (s.taken r).appendBytes n 0 0 bytes
      exec (.append r n bytes) s = .next ((run.1.reply .append r (match run.2.2.2 with
        | .all => ⟨.ok, .appended run.2.1 run.2.2.1 []⟩
        | .tooLong => ⟨.partly, .appended run.2.1 run.2.2.1 [.tooLong]⟩
        | .noPage => ⟨.storeFull, .appended run.2.1 run.2.2.1 []⟩)).seal s.pending)))) ∧
  ∀ (s : State) (n accepted replaced : Nat) (m : MsgRec), s.record n = some m →
    s.appendBytes n accepted replaced [] = (s, accepted, replaced, .all) ∧
    ∀ (b : Byte) (rest : List Byte),
      let next (t : State) := State.appendBytes (t.updRecord n fun m =>
          { m with text := m.text ++ [normByte b], textLen := m.textLen + 1 })
        n (accepted + 1) (replaced + if replacedByte b then 1 else 0) rest
      let run := s.appendBytes n accepted replaced (b :: rest)
      (3072 ≤ m.textLen → run = (s, accepted, replaced, .tooLong)) ∧
      (m.textLen < 3072 → m.textLen % 64 ≠ 0 → run = next s) ∧
      (m.textLen < 3072 → m.textLen % 64 = 0 → ∀ t,
        (s.allocPages .ordinary 1 n = (true, t) → run = next t) ∧
        (s.allocPages .ordinary 1 n = (false, t) → run = (t, accepted, replaced, .noPage)))

/-- SUBMIT queues a draft that has text and the engine tests for due stations; unheld and foreign messages are refused
in the order of R13. -/
def Obligations.SubmitAndItsChecks : Prop :=
  (∀ (s : State) (r : Req) (n : Nat) (m : MsgRec), s.Settled → s.Passes .submit r → s.record n = some m →
    m.orig = .port r.port →
    (s.holds r.port .submitTraffic = true → m.state = .draft → m.textLen ≠ 0 →
      ∃ t, exec (.submit r n) s = .next t ∧
        t = ((({ s.taken r with store.recs := s.store.recs.upd n fun m => { m with state := .queued } }.post
          .dueTest).work.reply .submit r (plain .ok)).seal s.pending) ∧
        t.store = { s.store with recs := s.store.recs.upd n fun m => { m with state := .queued } }) ∧
    (s.attend = none →
      (s.holds r.port .submitTraffic = false →
        exec (.submit r n) s = .next (s.answered .submit r (plain .refusedGrant) [])) ∧
      (s.holds r.port .submitTraffic = true → m.state ≠ .draft →
        exec (.submit r n) s = .next (s.answered .submit r (plain .wrongState) [])) ∧
      (s.holds r.port .submitTraffic = true → m.state = .draft → m.textLen = 0 →
        exec (.submit r n) s = .next (s.answered .submit r (plain .badArgument) [])))) ∧
  (∀ (s : State) (c : Instr) (k : ReqKind) (r : Req) (n : Nat), s.Settled → s.attend = none → s.Passes k r →
    requestOf c = some (k, r) →
    ((∃ b, c = .append r n b) ∨ c = .submit r n ∨ c = .withdraw r n →
      (s.record n = none → exec c s = .next (s.answered k r (plain .notFound) [])) ∧
      ∀ m, s.record n = some m → m.orig ≠ .port r.port → exec c s = .next (s.answered k r (plain .notOwner) [])) ∧
    (c = .delete r n ∨ (∃ o l, c = .read r n o l) ∨ c = .keepSet r n ∨ c = .keepClear r n →
      (s.record n = none → exec c s = .next (s.answered k r (plain .notFound) [])) ∧
      ∀ m, s.record n = some m → s.holds r.port m.cls.readGrant = false →
        exec c s = .next (s.answered k r (plain .refusedGrant) [])))

/-- WITHDRAW frees or marks the originator's record; DELETE frees a finished record whose KEEP is clear, with its
pages, and STORE-LOW is tested. -/
def Obligations.WithdrawAndDeleteFree : Prop :=
  (∀ (s : State) (r : Req) (n : Nat) (m : MsgRec), s.Settled → s.Passes .withdraw r → s.record n = some m →
    m.orig = .port r.port →
    ((m.state = .draft ∨ m.state = .queued ∨ m.state = .failed) →
      exec (.withdraw r n) s = .next
        ((({ s.taken r with
            store.recs := s.store.recs.del n, store.free := s.store.free ++ m.pages
            bcast.register := s.bcast.register.map (RegEntry.forget n)
            catch_.overdue := s.catch_.overdue.del n }.storeLowTest).work.reply .withdraw r (plain .ok)).seal s.pending)) ∧
    (m.state = .sending → m.withdrawPending = false →
      exec (.withdraw r n) s = .next
        ((({ s.taken r with
            store.recs := s.store.recs.upd n fun m => { m with withdrawPending := true }
            link.session := s.link.session.map (Session.abortIfOpen n true) }).work.reply .withdraw r
              ⟨.partly, .changes [.withdrawalPending]⟩).seal s.pending)) ∧
    (s.attend = none →
      (m.state = .sending → m.withdrawPending = true → exec (.withdraw r n) s =
        .next (s.answered .withdraw r ⟨.partly, .changes [.withdrawalPending]⟩ [])) ∧
      ((m.state = .delivered ∨ m.state = .confirmed) →
        exec (.withdraw r n) s = .next (s.answered .withdraw r (plain .wrongState) [])))) ∧
  (∀ (s : State) (r : Req) (n : Nat) (m : MsgRec), s.Settled → s.Passes .delete r → s.record n = some m →
    s.holds r.port m.cls.readGrant = true →
    let frees := m.keep = false ∧ (m.state = .stored ∨ m.state = .confirmed ∨ m.state = .failed ∨
      (m.state = .delivered ∧ m.cls ≠ .report))
    let free := s.store.free ++ m.pages
    (frees → exec (.delete r n) s =
      .next ({ s with
        store.recs := s.store.recs.del n, store.free := free
        store.lowArmed := if s.store.lowArmed then decide (128 ≤ free.length) else decide (192 ≤ free.length)
        bcast.register := s.bcast.register.map fun (e : RegEntry) => if e.msg = some n then { e with msg := none } else e
        catch_.overdue := s.catch_.overdue.del n }.answered .delete r (plain .ok)
          (if s.store.lowArmed ∧ free.length < 128 then [.storeLow] else []))) ∧
    (¬frees → exec (.delete r n) s = .next (s.answered .delete r (plain .wrongState) [])))

/-- KEEP-SET, KEEP-CLEAR, READ, LIST and READ-LOG change a mark or a cursor alone and return text, summaries and
entries; log entries are written and completed. The model's choice (log entries 6, 19, 59): BAD-ARGUMENT for an
undefined class or state, and 8 as the code of ANY, and READ refuses a RECEIVING message before its range is tested.
-/
def Obligations.MessagesKeptReadAndListed : Prop :=
  ((∀ (s : State) (r : Req) (n : Nat) (m : MsgRec), s.Settled → s.record n = some m →
    s.holds r.port m.cls.readGrant = true →
    (s.Passes .keepSet r →
      (m.state ≠ .receiving → exec (.keepSet r n) s = .next ({ s with
        store.recs := s.store.recs.upd n fun m => { m with keep := true } }.answered .keepSet r (plain .ok) [])) ∧
      (m.state = .receiving → exec (.keepSet r n) s = .next (s.answered .keepSet r (plain .wrongState) []))) ∧
    (s.Passes .keepClear r →
      (m.state ≠ .receiving → exec (.keepClear r n) s = .next ({ s with
        store.recs := s.store.recs.upd n fun m => { m with keep := false } }.answered .keepClear r (plain .ok) [])) ∧
      (m.state = .receiving → exec (.keepClear r n) s = .next (s.answered .keepClear r (plain .wrongState) [])))) ∧
  (∀ (s : State) (r : Req) (n offset count : Nat) (m : MsgRec), s.Settled → s.Passes .read r → s.record n = some m →
    s.holds r.port m.cls.readGrant = true →
    (m.state = .receiving → exec (.read r n offset count) s = .next (s.answered .read r (plain .wrongState) [])) ∧
    (m.state ≠ .receiving → (count = 0 ∨ 200 < count ∨ m.textLen < offset) →
      exec (.read r n offset count) s = .next (s.answered .read r (plain .badArgument) [])) ∧
    (m.state ≠ .receiving → 1 ≤ count → count ≤ 200 → offset ≤ m.textLen →
      let answer : Answer := ⟨.ok, .bytes ((m.text.drop offset).take count) m.textLen⟩
      ((m.textLen = 0 ∨ (offset < m.textLen ∧ m.textLen ≤ offset + count)) → exec (.read r n offset count) s =
        .next ({ s with store.recs := s.store.recs.upd n fun m =>
          { m with readMask := m.readMask.set r.port true } }.answered .read r answer [])) ∧
      (m.textLen ≠ 0 → (offset = m.textLen ∨ offset + count < m.textLen) →
        exec (.read r n offset count) s = .next (s.answered .read r answer [])))) ∧
  (∀ (s : State) (r : Req) (cls state start : Nat), s.Settled → s.Passes .list r →
    (Cls.ofCode cls = none → exec (.list r cls state start) s = .next (s.answered .list r (plain .badArgument) [])) ∧
    ∀ c, Cls.ofCode cls = some c →
      (s.holds r.port c.readGrant = false →
        exec (.list r cls state start) s = .next (s.answered .list r (plain .refusedGrant) [])) ∧
      (s.holds r.port c.readGrant = true →
        (state ≠ 8 → MsgState.ofCode state = none →
          exec (.list r cls state start) s = .next (s.answered .list r (plain .badArgument) [])) ∧
        (state = 8 ∨ MsgState.ofCode state ≠ none →
          let found := s.store.recs.filter fun e =>
            start < e.1 ∧ e.2.cls = c ∧ (state = 8 ∨ some e.2.state = MsgState.ofCode state)
          exec (.list r cls state start) s = .next (s.answered .list r
            (if found = [] then plain .empty
            else ⟨.ok, .listed ((found.take 16).map fun e => e.2.summary r.port e.1) (decide (16 < found.length))⟩) [])))) ∧
  (∀ (s : State) (r : Req) (start : Option Half), s.Settled → s.Passes .readLog r →
    let cursor := start.getD (s.ports.get r.port).cursor
    let oldest := s.log.oldest
    let n := s.log.entries.length
    let d := (cursor - oldest).toNat
    let moved (c : Half) : State := { s with ports := s.ports.set r.port { s.ports.get r.port with cursor := c } }
    (d < n →
      let out := (s.log.entries.drop d).take 8
      exec (.readLog r start) s = .next
        ((moved (cursor + BitVec.ofNat 16 out.length)).answered .readLog r ⟨.ok, .logEntries out none⟩ [])) ∧
    (d = n → exec (.readLog r start) s = .next ((moved cursor).answered .readLog r (plain .empty) [])) ∧
    (n < d →
      let out := s.log.entries.take 8
      exec (.readLog r start) s = .next
        ((moved (oldest + BitVec.ofNat 16 out.length)).answered .readLog r
          ⟨if n = 0 then .empty else .ok, .logEntries out (some (oldest - cursor).toNat)⟩ [])))) ∧
  (∀ (s : State) (kind : LogKind) (peer channel : Nat) (n : Half) (outcome : LogOutcome) (msg figure : Option Nat),
    s.logWrite kind peer channel = { s with
      log := {
        entries := (if 64 ≤ s.log.entries.length then s.log.entries.tail else s.log.entries) ++
          [{ number := s.log.next, kind, peer, channel, began := s.time.now, begun := true, ended := false
             endTime := none, outcome := none, msg := none, errFig := none }]
        next := s.log.next + 1 }
      raised := s.raised ++ [.logAdvanced] } ∧
    s.logComplete n outcome msg figure = { s with log.entries := s.log.entries.map fun (e : LogEntry) =>
      if e.number = n ∧ e.ended = false then
        { e with ended := true, endTime := some s.time.now, outcome := some outcome, msg := msg, errFig := figure }
      else e } ∧
    s.logMoment kind peer channel outcome msg figure =
      (s.logWrite kind peer channel).logComplete s.log.next outcome msg figure)

/-- Reclaim frees the oldest record of the lowest tier of R8 until the condition of an allocation holds; an allocation
succeeds exactly when it does; a text takes its record first and then its pages; a record takes the first number from the
counter on that none holds. -/
def Obligations.ReclaimTakesLowestTierOldestFirst : Prop :=
  (∀ s : State, s.store.recs.wf = true →
    let seen (g : Grant) (m : MsgRec) : Prop := ∀ p, s.holds p g = true → m.readMask.get p = true
    let tier (e : Nat × MsgRec) (k : Nat) : Prop := e.2.keep = false ∧
      ((k = 1 ∧ e.2.cls = .traffic ∧ e.2.dir = .inbound ∧ e.2.state = .stored ∧ seen .readTraffic e.2) ∨
      (k = 2 ∧ e.2.dir = .outbound ∧ (e.2.state = .confirmed ∨ e.2.state = .failed ∨
        (e.2.state = .delivered ∧ e.2.cls ≠ .report))) ∨
      (k = 3 ∧ e.2.cls = .bulletin ∧ e.2.state = .stored ∧ seen .readBulletin e.2 ∧
        ∀ q ∈ s.bcast.register, q.msg ≠ some e.1) ∨
      (k = 4 ∧ e.2.cls = .bulletin ∧ e.2.state = .stored ∧ seen .readBulletin e.2 ∧
        ∃ q ∈ s.bcast.register, q.msg = some e.1))
    let old (e : Nat × MsgRec) : Nat := (s.time.now - e.2.created).toNat
    let older (a b : Nat × MsgRec) : Prop := old b < old a ∨ (old a = old b ∧ a.1 < b.1)
    let first (e : Nat × MsgRec) : Prop := e ∈ s.store.recs ∧ ∃ k, tier e k ∧
      ∀ d ∈ s.store.recs, ∀ j, tier d j → k < j ∨ (k = j ∧ (d = e ∨ older e d))
    (∀ ok : State → Bool,
      (ok s = true → s.reclaimFor ok = s) ∧
      ((∀ e ∈ s.store.recs, ∀ k, ¬tier e k) → s.reclaimFor ok = s) ∧
      (ok s = false → ∀ e, first e → s.reclaimFor ok = (s.freeRecord e.1).reclaimFor ok)) ∧
    (∀ (perm : Permission) (n msg : Nat),
      let least := match perm with
        | .ordinary => n + 64
        | .reserve => n
      let u := s.reclaimFor fun t => decide (least ≤ t.freePages)
      (least ≤ u.freePages → s.allocPages perm n msg = (true,
        ({ u with
          store.free := u.store.free.drop n
          store.recs := u.store.recs.upd msg fun (m : MsgRec) =>
            { m with pages := m.pages ++ u.store.free.take n } } : State).storeLowTest)) ∧
      (u.freePages < least → s.allocPages perm n msg = (false, u))) ∧
    ∀ (perm : Permission) (m : MsgRec),
      let least := match perm with
        | .ordinary => 9
        | .reserve => 1
      let u := s.reclaimFor fun t => decide (least ≤ t.freeRecords)
      let n := freeNumber u.store.recs (u.store.recs.length + 1) u.store.next
      (least ≤ u.freeRecords → s.allocRecord perm m =
        (some n, { u with store.recs := u.store.recs.put n m, store.next := nextNumber n })) ∧
      (u.freeRecords < least → s.allocRecord perm m = (none, u))) ∧
  (∀ (s : State) (perm : Permission) (m : MsgRec),
    (∀ u, s.allocRecord perm m = (none, u) → s.allocText perm m = (none, u)) ∧
    ∀ n u, s.allocRecord perm m = (some n, u) →
      (m.textLen = 0 → s.allocText perm m = (some n, u)) ∧
      (m.textLen ≠ 0 → ∀ v,
        (u.allocPages perm ((m.textLen + 63) / 64) n = (true, v) → s.allocText perm m = (some n, v)) ∧
        (u.allocPages perm ((m.textLen + 63) / 64) n = (false, v) → s.allocText perm m = (none, v.freeRecord n)))) ∧
  (∀ n, nextNumber n = if 65535 ≤ n then 1 else n + 1) ∧
  ∀ (recs : Table MsgRec) (start : Nat), recs.length ≤ 128 → 1 ≤ start → start ≤ 65535 →
    let number (k : Nat) : Nat := (start - 1 + k) % 65535 + 1
    ∃ k, freeNumber recs (recs.length + 1) start = number k ∧ recs.find (number k) = none ∧
      ∀ j < k, recs.find (number j) ≠ none

/-- STATION-SET writes an entry as normalised, keeps working memory with the same number alone and moves AUTHORITY;
STATION-CLEAR empties one. The model's choice (log entries 10, 26, 30, 44): HOLD-CHANGED carries the old number with both
flags clear, and a name that normalisation changed is named whole, and an entry number outside the table taken as
empty, SET requests apart; and a session in waiting that ends by a REJECT engages its station no more. -/
def Obligations.StationsWrittenAndCleared : Prop :=
  (∀ (s : State) (r : Req) (entry : Nat) (a : StationArgs), s.Settled → s.Passes .stationSet r →
    let old := s.dir.stations.find entry
    let taken := (s.dir.stations.find? fun e => e.2.cfg.number == a.number).any fun e => e.1 != entry
    let engaged := old.any (fun o => s.engaged o.cfg.number) ∨ (taken ∧ s.engaged a.number)
    let ranged := 1 ≤ entry ∧ entry ≤ 16 ∧ 10000 ≤ a.number ∧ a.number ≤ 99999 ∧ ¬taken
    let listed := a.channels ≠ [] ∧ a.channels.length ≤ 6 ∧ repeats a.channels = false ∧
      ∀ n ∈ a.channels, 1 ≤ n ∧ n ≤ 48 ∧ ∃ c, s.channel n = some c ∧ c.cfg.use ≠ .distress
    let attempts := min (max a.attempts 1) 8
    let cfg : StationCfg :=
      { number := a.number, name := (a.name.map normByte).take 12, traffic := a.traffic, broadcast := a.broadcast,
        authority := a.authority, channels := a.channels, attempts }
    let same := old.filter fun o => o.cfg.number = a.number
    let written : Station := match same with
      | some o => { o with cfg, noChannel := false }
      | none =>
        { cfg, shoreHold := false, consoleHold := false, k := 0, nextCall := none, nextCallArmed := false,
          noChannel := false }
    let loser := if a.authority then
        (s.dir.stations.find? fun e => e.1 != entry && e.2.cfg.authority).map (·.1)
      else none
    let others := match loser with
      | some n => s.dir.stations.upd n fun st => { st with cfg := { st.cfg with authority := false } }
      | none => s.dir.stations
    let lost := match same, old with
      | none, some o => if o.held then [Notice.holdChanged o.cfg.number false false] else []
      | _, _ => []
    let changes := (if a.name.map normByte = a.name then [] else [Change.nameNormalised]) ++
      (if 12 < a.name.length then [.nameCut] else []) ++ (if attempts = a.attempts then [] else [.attemptsClamped attempts]) ++
      (match loser with
        | some n => [.authorityCleared n]
        | none => [])
    (¬engaged → ranged → listed → exec (.stationSet r entry a) s = .next (s.afterRequest .stationSet r
      ({ s.taken r with dir.stations := others.put entry written, raised := lost }.post .dueTest)
      (if changes = [] then plain .ok else ⟨.partly, .changes changes⟩))) ∧
    (s.attend = none →
      (engaged → exec (.stationSet r entry a) s = .next (s.answered .stationSet r (plain .inUse) [])) ∧
      (¬engaged → ¬(ranged ∧ listed) →
        exec (.stationSet r entry a) s = .next (s.answered .stationSet r (plain .badArgument) [])))) ∧
  (∀ (s : State) (r : Req) (entry : Nat), s.Settled → s.Passes .stationClear r →
    (∀ st, s.dir.stations.find entry = some st → s.engaged st.cfg.number = false →
      exec (.stationClear r entry) s = .next (s.afterRequest .stationClear r
        { s.taken r with
          dir.stations := s.dir.stations.del entry
          raised := if st.held then [.holdChanged st.cfg.number false false] else [] } (plain .ok))) ∧
    (s.attend = none →
      (s.dir.stations.find entry = none →
        exec (.stationClear r entry) s = .next (s.answered .stationClear r (plain .notFound) [])) ∧
      ∀ st, s.dir.stations.find entry = some st → s.engaged st.cfg.number = true →
        exec (.stationClear r entry) s = .next (s.answered .stationClear r (plain .inUse) []))) ∧
  ∀ (s : State) (number : Nat), s.engaged number = true ↔
    (∃ e, s.link.session = some e ∧ e.peer = number) ∨
    (∃ w, s.link.await = some w ∧ w.station = number ∧ w.ending = false) ∨
    ∃ c, s.link.round = some c ∧ c.station = number ∧ c.engaged = true

/-- HOLD-STATION and RELEASE-STATION set and clear the console-hold with HOLD-CHANGED; a hold returns records being
sent to QUEUED and owes TEXT-ABORT. -/
def Obligations.ConsoleHoldsSetAndCleared : Prop :=
  ∀ (s : State) (r : Req) (number : Nat), s.Settled →
    let held (v : Bool) : State := (s.taken r).updStation number fun st => { st with consoleHold := v }
    let back : List Nat := (s.store.recs.filter fun e =>
      e.2.dir = .outbound ∧ e.2.state = .sending ∧ e.2.peer = number ∧ 1 < e.2.prec.code).map (·.1)
    let parted (e : Session) : Session :=
      { e with
        outMsg := e.outMsg.filter fun m => decide (m.1 ∉ back)
        aborts := e.aborts ++ ((e.outMsg.filter fun m => decide (m.1 ∈ back)).map fun m => (m.1, false)).toList
        inFlight := e.inFlight.map fun (f : Flight) =>
          if f.ends.any (fun n => decide (n ∈ back)) = true then { f with ends := none } else f
        later := e.later ++ (e.inFlight.filterMap fun (f : Flight) => f.ends).filter fun n => decide (n ∈ back) }
    (s.Passes .holdStation r → ∀ st, s.stationOf number = some st →
      (st.consoleHold = false → exec (.holdStation r number) s = .next (s.afterRequest .holdStation r
        { held true with
          store.recs := s.store.recs.map fun e => if e.1 ∈ back then (e.1, { e.2 with state := .queued }) else e
          link.session := s.link.session.map parted
          raised := [.holdChanged number st.shoreHold true] } (plain .ok))) ∧
      (st.consoleHold = true → exec (.holdStation r number) s =
        .next (s.afterRequest .holdStation r (s.taken r) (plain .ok)))) ∧
    (s.Passes .releaseStation r → ∀ st, s.stationOf number = some st →
      (st.consoleHold = true → exec (.releaseStation r number) s = .next (s.afterRequest .releaseStation r
        ({ held false with raised := [.holdChanged number st.shoreHold false] }.post .dueTest) (plain .ok))) ∧
      (st.consoleHold = false → exec (.releaseStation r number) s =
        .next (s.afterRequest .releaseStation r (s.taken r) (plain .ok)))) ∧
    (s.attend = none → s.stationOf number = none →
      (s.Passes .holdStation r →
        exec (.holdStation r number) s = .next (s.answered .holdStation r (plain .notFound) [])) ∧
      (s.Passes .releaseStation r →
        exec (.releaseStation r number) s = .next (s.answered .releaseStation r (plain .notFound) [])))

/-- CHANNEL-SET loads an entry afresh; CHANNEL-CLEAR, DISABLE and ENABLE empty one and set its flag; each with its
checks in order. The model's choice (log entries 6, 19, 25, 26, 42): the codes of the uses, BAD-ARGUMENT for an
undefined one, the main tuned channel kept, and a TUNE-WATCH in flight to the entry left as it is, and an entry number
outside the table taken as empty, SET requests apart. -/
def Obligations.ChannelsWrittenAndCleared : Prop :=
  (∀ (s : State) (r : Req) (entry : Nat) (a : ChannelArgs), s.Settled → s.Passes .channelSet r →
    let use := Use.ofCode a.use
    let inUse := s.channelInUse entry = true ∨ (use = some .distress ∧ s.distress.state ≠ .quiet)
    let ranged := 1 ≤ entry ∧ entry ≤ 48 ∧ freqInRange a.tx = true ∧ freqInRange a.rx = true ∧ use ≠ none ∧
      (use = some .distress → s.listed entry = false)
    let full := use = some .distress ∧ (∀ c, s.channel entry = some c → c.cfg.use ≠ .distress) ∧
      6 ≤ (s.dir.channels.filter fun e => e.1 != entry && e.2.cfg.use == .distress).length
    let changes := (if a.startHour ≤ 23 then [] else [Change.startHourClamped]) ++
      (if a.endHour ≤ 23 then [] else [.endHourClamped])
    (¬inUse → ranged → ¬full → ∀ u, use = some u → exec (.channelSet r entry a) s = .next (s.afterRequest .channelSet r
      ({ s.taken r with
        dir.channels := s.dir.channels.put entry
          { cfg :=
              { tx := a.tx, rx := a.rx, use := u, startHour := min a.startHour 23, endHour := min a.endHour 23
                disabled := a.disabled }
            q := 500, lastFail := none }
        dir.stations := s.dir.stations.mapVals fun (st : Station) =>
          if st.cfg.channels.contains entry then { st with noChannel := false } else st
        watch.tuned := if s.watch.tuned = some entry then none else s.watch.tuned }.post .dueTest)
      (if changes = [] then plain .ok else ⟨.partly, .changes changes⟩))) ∧
    (s.attend = none →
      (inUse → exec (.channelSet r entry a) s = .next (s.answered .channelSet r (plain .inUse) [])) ∧
      (¬inUse → ¬ranged → exec (.channelSet r entry a) s = .next (s.answered .channelSet r (plain .badArgument) [])) ∧
      (¬inUse → ranged → full → exec (.channelSet r entry a) s = .next (s.answered .channelSet r (plain .tableFull) [])))) ∧
  (∀ (s : State) (r : Req) (entry : Nat), s.Settled →
    let marks : Table Station := s.dir.stations.mapVals fun (st : Station) =>
      if st.cfg.channels.contains entry then { st with noChannel := false } else st
    let flagged (v : Bool) : Table Channel := s.dir.channels.upd entry fun c => { c with cfg := { c.cfg with disabled := v } }
    let used := s.channelInUse entry = true ∨ s.listed entry = true ∨ s.scheduled entry = true
    (s.Passes .channelClear r →
      (¬used → s.channel entry ≠ none → exec (.channelClear r entry) s = .next (s.afterRequest .channelClear r
        ({ s.taken r with dir.channels := s.dir.channels.del entry, dir.stations := marks }.post .dueTest)
        (plain .ok))) ∧
      (s.attend = none →
        (used → exec (.channelClear r entry) s = .next (s.answered .channelClear r (plain .inUse) [])) ∧
        (¬used → s.channel entry = none →
          exec (.channelClear r entry) s = .next (s.answered .channelClear r (plain .notFound) [])))) ∧
    (s.Passes .channelDisable r →
      (s.channel entry ≠ none → exec (.channelDisable r entry) s = .next (s.afterRequest .channelDisable r
        { s.taken r with dir.channels := flagged true } (plain .ok))) ∧
      (s.attend = none → s.channel entry = none →
        exec (.channelDisable r entry) s = .next (s.answered .channelDisable r (plain .notFound) []))) ∧
    (s.Passes .channelEnable r →
      (s.channel entry ≠ none → exec (.channelEnable r entry) s = .next (s.afterRequest .channelEnable r
        ({ s.taken r with dir.channels := flagged false, dir.stations := marks }.post .dueTest) (plain .ok))) ∧
      (s.attend = none → s.channel entry = none →
        exec (.channelEnable r entry) s = .next (s.answered .channelEnable r (plain .notFound) [])))) ∧
  ∀ (s : State) (n : Nat),
    (s.channelInUse n = true ↔
      (∃ holder, s.arb.holder = some holder ∧
        (s.main.tuned = some n ∨ ∃ f, s.main.flight = some f ∧ f.channel = n ∧ f.requester = some holder)) ∨
      (s.distress.state ≠ .quiet ∧ ∃ c, s.channel n = some c ∧ c.cfg.use = .distress)) ∧
    (s.listed n = true ↔ ∃ e ∈ s.dir.stations, n ∈ e.2.cfg.channels) ∧
    (s.scheduled n = true ↔ ∃ e ∈ s.bcast.schedule, e.2.cfg.channel = n) ∧
    (freqInRange n = true ↔ 16000 ≤ n ∧ n ≤ 300000)

/-- AREA-SET and AREA-CLEAR write and empty an area entry, and the area set is worked out again from the fix. The
model's choice (log entry 26): an entry number outside the table taken as empty, SET requests apart. -/
def Obligations.AreasSetAndCleared : Prop :=
  ∀ (s : State) (r : Req) (area : Nat), s.Settled →
    let found (t : Table Area) : Option (List Nat) := s.time.fix.bind fun f =>
      if 600 < (s.time.now - f.time).toNat then none
      else some ((t.filter fun e => decide (e.2.south ≤ f.lat ∧ f.lat < e.2.north ∧
        (if e.2.west < e.2.east then e.2.west ≤ f.lon ∧ f.lon < e.2.east
        else e.2.west ≤ f.lon ∨ f.lon < e.2.east))).map (·.1))
    (s.Passes .areaSet r → ∀ a : AreaArgs,
        let good := 1 ≤ area ∧ area ≤ 32 ∧ latInRange a.south = true ∧ latInRange a.north = true ∧
          lonInRange a.west = true ∧ lonInRange a.east = true ∧ a.south < a.north ∧ a.west ≠ a.east
        let t := s.time.areas.put area
          { name := (a.name.map normByte).take 12, south := a.south, north := a.north, west := a.west, east := a.east }
        (good → exec (.areaSet r area a) s =
          .next ({ s with time.areas := t, time.areaSet := found t }.answered .areaSet r
            (if 12 < a.name.length then ⟨.partly, .changes [.nameCut]⟩ else plain .ok) [])) ∧
        (¬good → exec (.areaSet r area a) s = .next (s.answered .areaSet r (plain .badArgument) []))) ∧
    (s.Passes .areaClear r →
        let t := s.time.areas.del area
        (s.time.areas.find area ≠ none → exec (.areaClear r area) s =
          .next ({ s with time.areas := t, time.areaSet := found t }.answered .areaClear r (plain .ok) [])) ∧
        (s.time.areas.find area = none →
          exec (.areaClear r area) s = .next (s.answered .areaClear r (plain .notFound) [])))

/-- A point lies in a loaded area by half-open bounds, across the 180 degree meridian when west exceeds east. -/
def Obligations.PointsLieInAreas : Prop :=
  ∀ (areas : Table Area) (lat lon : Int), (∀ e ∈ areas, e.2.west ≠ e.2.east) →
    (∀ n : Nat, n ∈ areasAt areas lat lon ↔ ∃ x : Area, (n, x) ∈ areas ∧ x.south ≤ lat ∧ lat < x.north ∧
      ((x.west < x.east ∧ x.west ≤ lon ∧ lon < x.east) ∨ (x.east < x.west ∧ (x.west ≤ lon ∨ lon < x.east)))) ∧
    areasAt [] lat lon = []

/-- The GET requests, FIX-STATUS, TALLY, DISTRESS-LIST and RADIO-STATUS answer what is held and change nothing;
BULLETIN-REGISTER ages the register first. The model's choice (log entries 26, 27, 41, 53): the stale flag set with no
fix, the order of DISTRESS-LIST over serials far apart, and no body in the EMPTY answer of BULLETIN-REGISTER, an entry
number outside the table answered as empty, and the pending reports in ascending number. -/
def Obligations.ReadsChangeNothing : Prop :=
  (∀ (s : State) (r : Req) (entry : Nat), s.Settled →
    (s.Passes .stationGet r → exec (.stationGet r entry) s = .next (s.answered .stationGet r
      (match s.dir.stations.find entry with
      | none => plain .empty
      | some st => ⟨.ok, .station st (st.cfg.channels.map fun n =>
          match s.channel n with
          | some c => (n, c.q, s.score c)
          | none => (n, 0, 0))⟩) [])) ∧
    (s.Passes .channelGet r → exec (.channelGet r entry) s = .next (s.answered .channelGet r
      (match s.dir.channels.find entry with
      | none => plain .empty
      | some c => ⟨.ok, .channel c (s.score c) (c.lastFail.any fun t => decide ((s.time.now - t).toNat < 600))⟩) [])) ∧
    (s.Passes .areaGet r → exec (.areaGet r entry) s = .next (s.answered .areaGet r
      (match s.time.areas.find entry with
      | none => plain .empty
      | some x => ⟨.ok, .area x⟩) [])) ∧
    (s.Passes .scheduleGet r → exec (.scheduleGet r entry) s = .next (s.answered .scheduleGet r
      (match s.bcast.schedule.find entry with
      | none => plain .empty
      | some e => ⟨.ok, .schedule e.cfg.station e.cfg.channel e.cfg.start e.cfg.duration e.cfg.must e.cfg.enabled
          e.lastTaken ((s.window entry).map (·.state))⟩) [])) ∧
    (s.Passes .speciesGet r → exec (.speciesGet r entry) s = .next (s.answered .speciesGet r
      (match s.catch_.species.find entry with
      | none => plain .empty
      | some sp => ⟨.ok, .species sp.cfg.code sp.cfg.quota sp.state
          ((s.catch_.rows.filter fun row => row.code == sp.cfg.code).map (·.trip)).sum⟩) [])) ∧
    (s.Passes .factorGet r → exec (.factorGet r entry) s = .next (s.answered .factorGet r
      (if s.catch_.factors.length ≤ entry then plain .empty
      else ⟨.ok, .factors ((s.catch_.factors.drop entry).take 16) s.catch_.factors.length⟩) [])) ∧
    (s.Passes .acceptGet r → exec (.acceptGet r) s = .next (s.answered .acceptGet r
      ⟨.ok, .cells s.handler.individual s.handler.collective⟩ []))) ∧
  (∀ (s : State) (r : Req) (start : Nat), s.Settled →
    (s.Passes .fixStatus r → exec (.fixStatus r) s = .next (s.answered .fixStatus r
      ⟨.ok, .fixStatus s.time.now s.time.source (s.time.fix.map fun f => (f, (s.time.now - f.time).toNat))
        (s.time.fix.all fun f => decide (600 < (s.time.now - f.time).toNat)) s.time.areaSet
        ((s.time.areaSet.getD []).headD 0) s.time.watchAreas⟩ [])) ∧
    (s.Passes .tally r → exec (.tally r start) s = .next (s.answered .tally r
      ⟨if s.catch_.rows.length ≤ start then .empty else .ok,
        .tally ((s.catch_.rows.drop start).take 16) s.catch_.rows.length s.catch_.spanStart s.catch_.reportTime
          s.catch_.deferral.isSome s.catch_.lastConfirmed
          ((s.store.recs.filter fun e => e.2.cls = .report ∧
            (e.2.state = .queued ∨ e.2.state = .sending ∨ e.2.state = .delivered)).map (·.1))⟩ [])) ∧
    (s.Passes .distressList r → exec (.distressList r) s = .next (s.answered .distressList r
      ⟨.ok, .distressList
        { state := s.distress.state, nature := s.distress.nature, persons := s.distress.persons
          serial := s.distress.serial, started := s.distress.started, rotPos := s.distress.rotPos
          nextCycle := s.distress.nextCycle, ackStation := s.distress.ackStation }
        s.distress.alarm s.distress.highest (s.distress.list.countP fun e => e.state = .new) (bySerial s.distress.list)⟩ [])) ∧
    (∀ base : Nat, base < 65536 →
      let after (e : DistressEntry) : Nat := (e.serial + 65536 - base) % 65536
      (∀ e ∈ s.distress.list, e.serial < 65536 ∧ after e < 32768) →
      (bySerial s.distress.list).Perm s.distress.list ∧
        (bySerial s.distress.list).Pairwise fun a b => after a ≤ after b) ∧
    (s.Passes .radioStatus r → exec (.radioStatus r) s = .next (s.answered .radioStatus r
      ⟨.ok, .radios s.main.inService s.main.faults s.main.tuned (s.main.flight.map (·.channel)) s.main.keyed
        s.watch.inService s.watch.faults s.watch.dwell s.watch.pos s.watch.tuned s.arb.holder s.arb.yieldAsked
        s.arb.waiting⟩ [])) ∧
    (s.Passes .bulletinRegister r →
      let l := s.bcast.register.filter fun (e : RegEntry) => decide ((s.time.now - e.received).toNat ≤ 259200)
      exec (.bulletinRegister r start) s = .next ({ s with bcast.register := l }.answered .bulletinRegister r
        (if l.length ≤ start then plain .empty else ⟨.ok, .register ((l.drop start).take 16) l.length⟩) [])))

/-- SET-TIME loads ship time; every armed timer, fix time and failed call time moves by the step, passed fix ages and
due calendar entries are taken. The model's choice (log entries 21, 24, 46, 51): timers other than the fix age that
the step carries past their targets stay due as events of their own, the order of the calendar entries, and the choice
of the call-watch channel after them, the day before day 0, and REVOKED and GRANTED taken after the whole step. -/
def Obligations.SetTimeLoadsClock : Prop :=
  (∀ (s : State) (r : Req) (value : Time), s.Settled → s.Passes .setTime r →
    let d := value - s.time.now
    let later (t : Option Time) : Option Time := t.map (· + d)
    let moved : State := { s.taken r with
      time := { s.time with
        now := value, source := .console, fix := s.time.fix.map fun (f : Fix) => { f with time := f.time + d } }
      dir.stations := s.dir.stations.mapVals fun (x : Station) => { x with nextCall := later x.nextCall }
      dir.channels := s.dir.channels.mapVals fun (c : Channel) => { c with lastFail := later c.lastFail }
      link.round := s.link.round.map fun (x : Round) => { x with listen := later x.listen }
      link.await := s.link.await.map fun (w : Await) => { w with wait := later w.wait }
      link.session := s.link.session.map fun (e : Session) =>
        { e with tallyWin := later e.tallyWin, receiveWin := later e.receiveWin, clearWait := later e.clearWait }
      handler.silence := s.handler.silence.map fun (q : Silence) => { q with endTime := q.endTime + d }
      bcast.windows := s.bcast.windows.map fun (w : Window) => { w with endTime := w.endTime + d }
      catch_.overdue := s.catch_.overdue.mapVals fun (t : Time) => t + d
      catch_.deferral := later s.catch_.deferral
      distress.nextCycle := later s.distress.nextCycle
      distress.holdTimer := later s.distress.holdTimer
      distress.slot := later s.distress.slot
      main.flight := s.main.flight.map fun (t : Tune) => { t with timer := later t.timer }
      watch.flight := s.watch.flight.map fun (t : Tune) => { t with timer := later t.timer }
      watch.timer := later s.watch.timer }
    let dated : State := if s.time.source = .unset then
        { moved with
          bcast.schedule := s.bcast.schedule.mapVals fun (e : Schedule) =>
            { e with lastTaken := some (latestDay value e.cfg.start) }
          catch_.reportTaken := some (latestDay value s.catch_.reportTime) }
      else moved
    let aged : State := match moved.time.fix with
      | some f =>
        if f.ageArmed = true ∧ (value - (f.time + 601#32)).toNat < 2 ^ 31 then
          { dated with
            time.fix := some { f with ageArmed := false }, time.areaSet := none, raised := [.positionStale f] }
        else dated
      | none => dated
    let stepped (t : State) : State := if 2 ≤ d.toInt ∨ d.toInt ≤ -2 then
        { t with raised := t.raised ++ [.clockStepped s.time.now value .console] }
      else t
    let tested := stepped ((s.bcast.schedule.map fun e => e.1).foldl State.scheduleDue aged).reportDue
    let answer : Answer := ⟨.ok, .delta d.toInt⟩
    exec (.setTime r value) s = .next (s.afterRequest .setTime r
      (if tested.arb.holder = some .watch then tested.chooseWatch else tested) answer) ∧
    (∃ t, exec (.setTime r value) s = .next (s.afterRequest .setTime r t answer) ∧
      t.time.now = value ∧ t.time.source = .console) ∧
    ((∀ f, s.time.fix = some f → f.ageArmed = true → passed s.time.now f.staleAt = false) →
      s.arb.holder ≠ some .watch →
      (s.time.source = .unset ∨
        ((∀ e ∈ s.bcast.schedule, calendarDue .console value e.2.cfg.start e.2.lastTaken = false) ∧
          calendarDue .console value s.catch_.reportTime s.catch_.reportTaken = false)) →
      exec (.setTime r value) s = .next (s.afterRequest .setTime r (stepped dated) answer))) ∧
  ∀ s : State,
    let due (minute : Nat) (lastTaken : Option Int) : Prop :=
      s.time.source ≠ .unset ∧ ∀ day, lastTaken = some day → day < latestDay s.time.now minute
    (∀ entry,
      (s.bcast.schedule.find entry = none → s.scheduleDue entry = s) ∧
      ∀ e, s.bcast.schedule.find entry = some e →
        (¬due e.cfg.start e.lastTaken → s.scheduleDue entry = s) ∧
        (due e.cfg.start e.lastTaken →
          let day := latestDay s.time.now e.cfg.start
          s.scheduleDue entry =
            ({ s with bcast.schedule := s.bcast.schedule.put entry { e with lastTaken := some day } } : State).takeOccurrence
              entry e.cfg day)) ∧
    (¬due s.catch_.reportTime s.catch_.reportTaken → s.reportDue = s) ∧
    (due s.catch_.reportTime s.catch_.reportTaken → s.reportDue =
      (({ s with catch_.reportTaken := some (latestDay s.time.now s.catch_.reportTime) } : State).trigger .daily).1)

/-- POSITION and POSITION-RECORD take a fix and work out the area set; POSITION-AGE-EXPIRY makes the fix stale and the
area set unknown. The model's choice (log entry 1): that POSITION-AGE-EXPIRY moves ship time to the target. -/
def Obligations.FixTakenAndAges : Prop :=
  ∀ s : State, s.Settled →
    let fixed (lat lon : Int) (source : FixSource) : TimeUnit :=
      { s.time with
        fix := some { lat, lon, time := s.time.now, source, ageArmed := true }
        areaSet := some (areasAt s.time.areas lat lon) }
    (∀ (r : Req) (lat lon : Int), s.Passes .position r →
      let fresh := ∃ f, s.time.fix = some f ∧ (s.time.now - f.time).toNat ≤ 600
      let ranged := latInRange lat = true ∧ lonInRange lon = true
      (¬ranged → exec (.position r lat lon) s = .next (s.answered .position r (plain .badArgument) [])) ∧
      (ranged → fresh → exec (.position r lat lon) s =
        .next (s.answered .position r ⟨.partly, .changes [.navigationActive]⟩ [])) ∧
      (ranged → ¬fresh → exec (.position r lat lon) s =
        .next ({ s with time := fixed lat lon .console }.answered .position r (plain .ok) []))) ∧
    (s.phase = .running → ∀ (check : Bool) (mark : Nat) (lat lon : Int),
      let good := check = true ∧ mark = 1 ∧ latInRange lat = true ∧ lonInRange lon = true
      (good → exec (.positionRecord check mark lat lon) s =
        .next { s with navRx := .searching, time := fixed lat lon .nav }) ∧
      (¬good → exec (.positionRecord check mark lat lon) s = .next { s with navRx := .searching })) ∧
    (s.phase = .loading → ∀ (check : Bool) (mark : Nat) (lat lon : Int),
      exec (.positionRecord check mark lat lon) s = .next { s with navRx := .searching }) ∧
    (s.phase ≠ .off →
      (∀ f, s.time.fix = some f → f.ageArmed = true → exec .positionAgeExpiry s =
        .next ({ s with
          time.now := if passed s.time.now f.staleAt then s.time.now else f.staleAt
          time.fix := some { f with ageArmed := false }, time.areaSet := none }.noticed [.positionStale f])) ∧
      ((∀ f, s.time.fix = some f → f.ageArmed = false) → exec .positionAgeExpiry s = .next s))

/-- CALL-NOW clears next-call time and no-channel mark; WATCH-STATION, QUARTER-HOUR and GRANTED choose the watch
channel; the call watch is claimed and given up. The model's choice (log entries 1, 11, 48, 49): that QUARTER-HOUR
moves ship time to the quarter hour, and what the choice compares the tuned channel with, and the answer to the value
none, and a REJECT cut when the call watch gives way. -/
def Obligations.CallNowAndCallWatch : Prop :=
  (∀ s : State, s.Settled →
    (∀ (r : Req) (number : Nat), s.Passes .callNow r →
      (s.knows number = true →
        let due := (s.firstFor number).isSome
        exec (.callNow r number) s = .next (s.afterRequest .callNow r
          (((s.taken r).updStation number fun st =>
            { st with nextCall := none, nextCallArmed := false, noChannel := false }).post .dueTest)
          ⟨.ok, .callNow due (!due) (s.engaged number)⟩)) ∧
      (s.attend = none → s.knows number = false →
        exec (.callNow r number) s = .next (s.answered .callNow r (plain .notFound) []))) ∧
    (∀ (r : Req) (station : Option Nat), s.Passes .watchStation r →
      let chosen (v : Option Nat) : State :=
        if s.arb.holder = some .watch then ({ s.taken r with link.watchStation := v } : State).chooseWatch
        else { s.taken r with link.watchStation := v }
      (station = none → exec (.watchStation r station) s = .next (s.afterRequest .watchStation r (chosen none)
        ⟨.ok, .watchChannel false []⟩)) ∧
      (∀ n st, station = some n → s.stationOf n = some st →
        (st.cfg.traffic = true → exec (.watchStation r station) s = .next (s.afterRequest .watchStation r
          (chosen (some n)) (if s.watchChannelOf st = none then ⟨.partly, .watchChannel false [.noWatchChannel]⟩
          else ⟨.ok, .watchChannel true []⟩))) ∧
        (s.attend = none → st.cfg.traffic = false → exec (.watchStation r station) s =
          .next (s.answered .watchStation r (plain .badArgument) []))) ∧
      (s.attend = none → ∀ n, station = some n → s.stationOf n = none →
        exec (.watchStation r station) s = .next (s.answered .watchStation r (plain .notFound) []))) ∧
    (s.phase ≠ .off →
      (s.arb.holder = some .watch → exec .quarterHour s = .next (s.afterEvent
        (if s.time.now.toNat % 900 = 0 then s else { s with time.now := nextQuarter s.time.now }).chooseWatch)) ∧
      (s.arb.holder ≠ some .watch → exec .quarterHour s = .next (s.afterEvent s)))) ∧
  (∀ s : State,
    let watched : Option Station := s.link.watchStation.bind s.stationOf
    let barred : Prop := s.distress.state = .pending ∨ s.distress.state = .alerting ∨ s.distress.state = .cancelling
    let wants : Prop := s.link.state = .idle ∧ watched ≠ none ∧ ¬barred
    let choice : Option Nat := watched.bind s.watchChannelOf
    let chosen : State := { s with link.watchChannel := choice }
    let coming : Option Nat := match s.main.nextTune, s.main.flight with
      | some x, _ => some x.1
      | none, some t => if t.requester = some .watch then some t.channel else none
      | none, none => s.main.tuned
    (wants → s.claimWatch = s.place .watch) ∧ (¬wants → s.claimWatch = s) ∧
    (s.arb.holder = some .watch → s.handle (.granted .watch) = s.chooseWatch) ∧
    (choice = none → s.chooseWatch = chosen) ∧
    (∀ ch, choice = some ch → (coming = some ch → s.chooseWatch = chosen) ∧
      (coming ≠ some ch → s.chooseWatch = chosen.tuneMain ch .watch)) ∧
    (s.arb.holder ≠ some .watch → s.giveWay = s) ∧
    (s.arb.holder = some .watch → s.giveWay = s.release.claimWatch ∧
      ∀ b p, s.main.onAir = some (b, p) → s.giveWay = (State.grantFrom { s with
        ctl := {
          tag := s.ctl.tag + 1
          cmds := s.ctl.cmds ++ [{ radio := .main, tag := s.ctl.tag, kind := .unkey, tx := 0, rx := 0 }] }
        main := { s.main with
          keyed := false, onAir := none, burstQ := [], nextTune := none
          flight := s.main.flight.map fun (t : Tune) => { t with requester := none } }
        arb := { s.arb with holder := none, yieldAsked := false } } s.arb.waiting).claimWatch) ∧
    s.watchTuned true = s ∧ (s.main.flight ≠ none → s.watchTuned false = s) ∧
    (s.main.flight = none → s.watchTuned false = { s with link.watchChannel := none }))

/-- SCHEDULE-SET writes an entry with its duration clamped and its last-taken day, SCHEDULE-CLEAR empties it;
AREA-WATCH replaces the watch areas. The model's choice (log entries 6, 19, 24, 26): mode 0 as MUST and 1 as OPTIONAL,
BAD-ARGUMENT for another mode, and the day before day 0, and an entry number outside the table taken as empty, SET
requests apart. -/
def Obligations.ScheduleAndAreaWatchSet : Prop :=
  (∀ (s : State) (r : Req) (entry : Nat), s.Settled →
    (s.Passes .scheduleSet r → ∀ a : ScheduleArgs,
      let good := 1 ≤ entry ∧ entry ≤ 24 ∧ a.start ≤ 1439 ∧
        (∃ st, s.dir.stations.find a.station = some st ∧ st.cfg.broadcast = true) ∧
        (∃ c, s.dir.channels.find a.channel = some c ∧ c.cfg.use = .broadcast) ∧ a.mode ≤ 1
      let duration := min (max a.duration 1) 60
      let minuteNow := s.time.now.toNat % 86400
      let today : Int := s.time.now.toNat / 86400
      let latest : Int := if a.start * 60 ≤ minuteNow then today else today - 1
      let day := match s.bcast.schedule.find entry with
        | some e => if e.cfg.start = a.start then e.lastTaken else if s.time.source = .unset then none else some latest
        | none => if s.time.source = .unset then none else some latest
      (s.window entry ≠ none → exec (.scheduleSet r entry a) s = .next (s.answered .scheduleSet r (plain .inUse) [])) ∧
      (s.window entry = none → ¬good →
        exec (.scheduleSet r entry a) s = .next (s.answered .scheduleSet r (plain .badArgument) [])) ∧
      (s.window entry = none → good → exec (.scheduleSet r entry a) s =
        .next ({ s with
          bcast.schedule := s.bcast.schedule.put entry
            { cfg :=
                { station := a.station, channel := a.channel, start := a.start, duration, must := decide (a.mode = 0)
                  enabled := a.enabled }
              lastTaken := day } }.answered .scheduleSet r
          (if duration = a.duration then plain .ok else ⟨.partly, .changes [.durationClamped duration]⟩) []))) ∧
    (s.Passes .scheduleClear r →
      (s.window entry ≠ none → exec (.scheduleClear r entry) s = .next (s.answered .scheduleClear r (plain .inUse) [])) ∧
      (s.window entry = none → s.bcast.schedule.find entry = none →
        exec (.scheduleClear r entry) s = .next (s.answered .scheduleClear r (plain .notFound) [])) ∧
      (s.window entry = none → s.bcast.schedule.find entry ≠ none → exec (.scheduleClear r entry) s =
        .next ({ s with bcast.schedule := s.bcast.schedule.del entry }.answered .scheduleClear r (plain .ok) [])))) ∧
  ((∀ (s : State) (r : Req) (set : BitVec 32), s.Settled → s.Passes .areaWatch r →
    let l := ((List.range 32).filter fun i => set.getLsbD i).map (· + 1)
    exec (.areaWatch r set) s =
      .next ({ s with time.watchAreas := l }.answered .areaWatch r ⟨.ok, .areas l⟩ [])) ∧
  ∀ (s : State) (l : List Nat) (b : Bulletin),
    ({ s with time.watchAreas := l } : State).primaryArea = s.primaryArea ∧
    (∀ kind value, ({ s with time.watchAreas := l } : State).addressMatches kind value = s.addressMatches kind value) ∧
    ∀ n ∈ b.areas, n ∈ l → ({ s with time.watchAreas := l } : State).passesFilter b = true)

/-- SPECIES and FACTOR requests write and empty entries with their checks in order; a quota state follows the trip sum
and raises each notice at most once. The model's choice (log entries 20, 26, 59): the species code of FACTOR requests
taken as given, and an entry number outside the table taken as empty, SET requests apart, and refusals in the order of
the text of R140. -/
def Obligations.SpeciesFactorsAndQuota : Prop :=
  ((∀ (s : State) (r : Req), s.Settled →
    (s.Passes .speciesSet r → ∀ (entry : Nat) (given : List Byte) (quota : Nat),
      ((entry = 0 ∨ 32 < entry ∨ codeOf given = none) →
        exec (.speciesSet r entry given quota) s = .next (s.answered .speciesSet r (plain .badArgument) [])) ∧
      ∀ code, 1 ≤ entry → entry ≤ 32 → codeOf given = some code →
        let other := (s.speciesOf code).any fun e => e.1 != entry
        let old := s.catch_.species.find entry
        let barred := ∃ sp, old = some sp ∧ sp.cfg.code ≠ code ∧ s.catch_.names sp.cfg.code = true
        let kept := old.filter fun sp => sp.cfg.code = code
        let base : Species :=
          { cfg := { code, quota }
            state := kept.elim .none (·.state), nearRaised := kept.any (·.nearRaised)
            reachedRaised := kept.any (·.reachedRaised) }
        (other = true → exec (.speciesSet r entry given quota) s =
          .next (s.answered .speciesSet r (plain .badArgument) [])) ∧
        (other = false → barred → exec (.speciesSet r entry given quota) s =
          .next (s.answered .speciesSet r (plain .inUse) [])) ∧
        (other = false → ¬barred → 99999999 < quota → exec (.speciesSet r entry given quota) s =
          .next (s.answered .speciesSet r (plain .badArgument) [])) ∧
        (other = false → ¬barred → quota ≤ 99999999 → exec (.speciesSet r entry given quota) s =
          .next ({ s with
            catch_.species := s.catch_.species.put entry (base.evaluate (s.tripSum code) none).1 }.answered
              .speciesSet r (plain .ok) (base.evaluate (s.tripSum code) none).2))) ∧
    (s.Passes .speciesClear r → ∀ entry : Nat,
      (s.catch_.species.find entry = none → exec (.speciesClear r entry) s =
        .next (s.answered .speciesClear r (plain .notFound) [])) ∧
      ∀ sp, s.catch_.species.find entry = some sp →
        (s.catch_.names sp.cfg.code = true → exec (.speciesClear r entry) s =
          .next (s.answered .speciesClear r (plain .inUse) [])) ∧
        (s.catch_.names sp.cfg.code = false → exec (.speciesClear r entry) s =
          .next ({ s with catch_.species := s.catch_.species.del entry }.answered .speciesClear r (plain .ok) []))) ∧
    (s.Passes .factorSet r → ∀ (code : List Byte) (form factor : Nat),
      ((Form.ofCode form = none ∨ factor < 1000 ∨ 9999 < factor) → exec (.factorSet r code form factor) s =
        .next (s.answered .factorSet r (plain .badArgument) [])) ∧
      ∀ fm, Form.ofCode form = some fm → 1000 ≤ factor → factor ≤ 9999 →
        (s.speciesOf code = none → exec (.factorSet r code form factor) s =
          .next (s.answered .factorSet r (plain .notFound) [])) ∧
        (s.speciesOf code ≠ none → s.factorOf code fm = none → 96 ≤ s.catch_.factors.length →
          exec (.factorSet r code form factor) s = .next (s.answered .factorSet r (plain .tableFull) [])) ∧
        (s.speciesOf code ≠ none → (s.factorOf code fm ≠ none ∨ s.catch_.factors.length < 96) →
          exec (.factorSet r code form factor) s =
            .next ({ s with catch_.factors := putFactor ⟨code, fm, factor⟩ s.catch_.factors }.answered .factorSet r
              (plain .ok) []))) ∧
    (s.Passes .factorClear r → ∀ (code : List Byte) (form : Nat),
      let held := (Form.ofCode form).bind fun fm => s.factorOf code fm
      (held = none → exec (.factorClear r code form) s = .next (s.answered .factorClear r (plain .notFound) [])) ∧
      (held ≠ none → exec (.factorClear r code form) s =
        .next ({ s with
          catch_.factors := s.catch_.factors.filter fun (f : Factor) =>
            decide (¬(f.code = code ∧ some f.form = Form.ofCode form)) }.answered .factorClear r (plain .ok) [])))) ∧
  (∀ (sp : Species) (sum : Nat) (haul : Option Nat),
    let q := sp.cfg.quota
    let target : QuotaState :=
      if q = 0 then .none else if q ≤ sum then .reached else if 90 * q ≤ sum * 100 then .near else .none
    let reaches := sp.state ≠ .reached ∧ target = .reached ∧ sp.reachedRaised = false
    let nears := sp.state = .none ∧ target = .near ∧ sp.nearRaised = false
    sp.evaluate sum haul =
      ({ sp with
          state := target, nearRaised := sp.nearRaised || decide (reaches ∨ nears)
          reachedRaised := sp.reachedRaised || decide reaches },
        if reaches then [.quotaReached sp.cfg.code sum q haul] else if nears then [.quotaNear sp.cfg.code sum q haul]
        else []))) ∧
  (∀ (f : Factor) (l : List Factor),
    let letters (c : List Byte) : List Nat := c.map fun (b : Byte) => b.toNat
    let same (g : Factor) : Prop := g.code = f.code ∧ g.form = f.form
    let behind (g : Factor) : Prop := letters f.code < letters g.code ∨ (f.code = g.code ∧ f.form.code < g.form.code)
    (∀ g ∈ l, ¬same g ∧ ¬behind g) →
      putFactor f l = l ++ [f] ∧
      ∀ g rest, (same g → putFactor f (l ++ g :: rest) = l ++ f :: rest) ∧
        (¬same g → behind g → putFactor f (l ++ g :: rest) = l ++ f :: g :: rest))

/-- POST-CATCH converts the weight, moves the row of species and primary area by it, capped and floored, and works out
the quota state. The model's choice (log entries 6, 20): kind 0 as LANDING and 1 as CORRECTION, and the species code
taken as given. -/
def Obligations.PostCatchMovesRow : Prop :=
  (∀ (s : State) (r : Req) (haul : Nat) (code : List Byte) (form w kind : Nat), s.Settled → s.Passes .postCatch r →
    let c : Instr := .postCatch r haul code form w kind
    let ranged := 1 ≤ haul ∧ haul ≤ 65535 ∧ w ≤ 999999 ∧ Form.ofCode form ≠ none ∧ kind ≤ 1
    let area := (s.time.areaSet.getD []).headD 0
    let held := s.catch_.rows.find? fun (q : Row) => q.code == code && q.area == area
    (¬ranged → exec c s = .next (s.answered .postCatch r (plain .badArgument) [])) ∧
    (ranged → s.speciesOf code = none → exec c s = .next (s.answered .postCatch r (plain .notFound) [])) ∧
    (ranged → s.speciesOf code ≠ none → held = none → kind = 1 →
      exec c s = .next (s.answered .postCatch r (plain .notFound) [])) ∧
    (ranged → s.speciesOf code ≠ none → held = none → kind = 0 → 64 ≤ s.catch_.rows.length →
      exec c s = .next (s.answered .postCatch r (plain .tableFull) [])) ∧
    ∀ fm n sp, ranged → Form.ofCode form = some fm → s.speciesOf code = some (n, sp) →
      (held ≠ none ∨ (kind = 0 ∧ s.catch_.rows.length < 64)) →
      let factor := s.factorOf code fm
      let f := factor.getD 1000
      let l := (w * f + 5000) / 10000
      let old : Row := held.getD { code, area, day := 0, trip := 0, unconverted := false }
      let row : Row :=
        { old with
          day := if kind = 0 then min (old.day + l) 99999999 else old.day - l
          trip := if kind = 0 then min (old.trip + l) 99999999 else old.trip - l
          unconverted := old.unconverted || factor.isNone }
      let rows := putRow row s.catch_.rows
      let sum := ((rows.filter fun (q : Row) => q.code == code).map (·.trip)).sum
      let saturated := decide (kind = 0 ∧ (99999999 < old.day + l ∨ 99999999 < old.trip + l))
      let clamped := decide (kind = 1 ∧ (old.day < l ∨ old.trip < l))
      exec c s = .next ({ s with
        catch_.rows := rows
        catch_.species := s.catch_.species.put n (sp.evaluate sum (some haul)).1 }.answered .postCatch r
          ⟨if saturated || clamped then .partly else .ok,
            .posted haul f l area row.day row.trip sum
              (((s.catch_.species.put n (sp.evaluate sum (some haul)).1).find?
                fun (e : Nat × Species) => e.2.cfg.code == code).elim .none (·.2.state)) factor.isNone saturated clamped⟩
          (sp.evaluate sum (some haul)).2)) ∧
  (∀ (r : Row) (l : List Row),
    let letters (c : List Byte) : List Nat := c.map fun (b : Byte) => b.toNat
    let same (q : Row) : Prop := q.code = r.code ∧ q.area = r.area
    let behind (q : Row) : Prop := letters r.code < letters q.code ∨ (r.code = q.code ∧ r.area < q.area)
    (∀ q ∈ l, ¬same q ∧ ¬behind q) →
      putRow r l = l ++ [r] ∧
      ∀ q rest, (same q → putRow r (l ++ q :: rest) = l ++ r :: rest) ∧
        (¬same q → behind q → putRow r (l ++ q :: rest) = l ++ r :: q :: rest))

/-- REPORT-TIME-SET sets the daily report time; TRIP-START clears tally, quota states and span start, and saves the
tally; a tally copy starts or waits. The model's choice (log entry 24): the day before day 0. -/
def Obligations.ReportTimeAndTripStart : Prop :=
  (∀ (s : State) (r : Req), s.Settled →
    (s.Passes .reportTimeSet r → ∀ minute : Nat,
      (1439 < minute → exec (.reportTimeSet r minute) s = .next (s.answered .reportTimeSet r (plain .badArgument) [])) ∧
      (minute ≤ 1439 → exec (.reportTimeSet r minute) s =
        .next ({ s with
          catch_.reportTime := minute
          catch_.reportTaken := if minute = s.catch_.reportTime ∨ s.time.source = ClockSource.unset then s.catch_.reportTaken
            else some (latestDay s.time.now minute) }.answered .reportTimeSet r (plain .ok) []))) ∧
    (s.Passes .tripStart r →
      let pending := ∃ e ∈ s.store.recs, e.2.cls = .report ∧
        (e.2.state = .queued ∨ e.2.state = .sending ∨ e.2.state = .delivered)
      let t : State :=
        { s with
          catch_.rows := []
          catch_.species := s.catch_.species.mapVals fun (sp : Species) =>
            { sp with state := .none, nearRaised := false, reachedRaised := false }
          catch_.spanStart := if s.time.source = ClockSource.unset then none else some (s.time.now.toNat / 86400) }
      ((pending ∨ s.catch_.deferral ≠ none) →
        exec (.tripStart r) s = .next (s.answered .tripStart r (plain .reportPending) [])) ∧
      (¬pending → s.catch_.deferral = none → exec (.tripStart r) s =
        .next ({ t with settings := t.settings.startWrite (.tally t.tallyCopy) }.answered .tripStart r (plain .ok) [])))) ∧
  (∀ (s : State) (c : Settings) (y : TallyImage),
    s.tallyCopy = {
      rows := s.catch_.rows, spanStart := s.catch_.spanStart
      quotas := s.catch_.species.map fun (e : Nat × Species) =>
        { code := e.2.cfg.code, state := e.2.state, nearRaised := e.2.nearRaised, reachedRaised := e.2.reachedRaised } } ∧
    s.saveTally = { s with settings := s.settings.startWrite (.tally s.tallyCopy) } ∧
    (c.writing = none → c.startWrite (.tally y) = { c with writing := some (.tally y) }) ∧
    (c.writing ≠ none →
      ((∀ z, SerialWrite.tally z ∉ c.queue) → c.startWrite (.tally y) = { c with queue := c.queue ++ [.tally y] }) ∧
      ((∃ z, SerialWrite.tally z ∈ c.queue) → c.startWrite (.tally y) = { c with
        queue := c.queue.map fun (w : SerialWrite) => match w with
          | .tally _ => .tally y
          | .settings i => .settings i })))

/-- A trigger composes a report, sends pending ones again, or defers; REPORT-NOW, the report time, the retry and the
overdue timer give the triggers. The model's choice (log entries 1, 24, 53): that the expiries and REPORT-TIME-DUE
move ship time to their target or next occurrence, the day before day 0, and the pending reports in ascending number.
-/
def Obligations.ReportTriggersTakeTheirCourse : Prop :=
  ((∀ (s : State) (t : Trigger),
    let span : Span := s.reportSpan
    let text := s.reportText span
    let record (station : Nat) : MsgRec :=
      { cls := .report, dir := .outbound, prec := .report, state := .queued, orig := .composer, peer := station
        peerRef := none, created := s.time.now, textLen := text.length, text, pages := [], attempts := 0
        readMask := ⟨false, false, false⟩, keep := false, withdrawPending := false, delivered := none, identity := none
        span := some span, errFig := none }
    let pending : List Nat := (s.store.recs.filter fun (e : Nat × MsgRec) =>
      e.2.cls == .report && (e.2.state == .queued || e.2.state == .sending || e.2.state == .delivered)).map (·.1)
    (s.authority = none → s.trigger t =
      ({ s with
        raised := s.raised ++ [.noAuthority t]
        catch_.deferral := if t = .retry then none else s.catch_.deferral }, .noAuthority)) ∧
    ∀ station, s.authority = some station →
      ((t = .poll ∨ t = .now) → pending ≠ [] → s.trigger t =
        ((pending.foldl (fun u n =>
          if (u.record n).any fun m => m.state == .delivered then u.requeueReport n else u) s).post .dueTest,
          .pendingReports (pending.map fun n =>
            (n, (s.record n).bind fun m => if m.state = .delivered then none else some m.state)))) ∧
      (((t = .daily ∨ t = .retry) ∨ pending = []) →
        (∀ n u, s.allocText .reserve (record station) = (some n, u) → s.trigger t =
          (({ u with
              catch_.rows := (u.catch_.rows.filter fun (q : Row) => q.trip != 0).map fun (q : Row) =>
                { q with day := 0, unconverted := false }
              catch_.spanStart := some (span.toDay + 1), catch_.deferral := none }.saveTally).post .dueTest,
            .composed n span)) ∧
        ∀ u, s.allocText .reserve (record station) = (none, u) → s.trigger t =
          ({ u with
            catch_.deferral := if u.catch_.deferral = none ∨ t = .retry then some (u.time.now + 600#32)
              else u.catch_.deferral
            raised := if u.catch_.deferral = none then u.raised ++ [.reportDeferred t u.catch_.spanStart]
              else u.raised }, .deferred))) ∧
  ∀ s : State, s.Settled →
    (∀ r, s.Passes .reportNow r → exec (.reportNow r) s = .next (s.afterRequest .reportNow r ((s.taken r).trigger .now).1
      (match ((s.taken r).trigger .now).2 with
      | .noAuthority => ⟨.notFound, .noAuthority⟩
      | .pendingReports l => ⟨.ok, .pendingReports l⟩
      | .composed n span => ⟨.ok, .composed n span⟩
      | .deferred => ⟨.storeFull, .deferredSince ((s.taken r).trigger .now).1.catch_.spanStart⟩))) ∧
    (s.phase = .running →
      (calendarDue s.time.source s.time.now s.catch_.reportTime s.catch_.reportTaken = true →
        exec .reportTimeDue s = .next (s.afterEvent
          (({ s with catch_.reportTaken := some (latestDay s.time.now s.catch_.reportTime) } : State).trigger .daily).1)) ∧
      (s.time.source = .unset → exec .reportTimeDue s = .next (s.afterEvent s)) ∧
      (∀ day, s.time.source ≠ .unset → s.catch_.reportTaken = some day → latestDay s.time.now s.catch_.reportTime ≤ day →
        let at_ : Int := (day + 1) * 86400 + s.catch_.reportTime * 60
        (0 ≤ at_ ∧ at_ < 2 ^ 32 →
          let target := BitVec.ofInt 32 at_
          exec .reportTimeDue s = .next (s.afterEvent
            (({ s with
              time.now := target
              catch_.reportTaken := some (latestDay target s.catch_.reportTime) } : State).trigger .daily).1)) ∧
        (¬(0 ≤ at_ ∧ at_ < 2 ^ 32) → exec .reportTimeDue s = .next (s.afterEvent s)))) ∧
    (s.phase ≠ .off →
      (∀ target, s.catch_.deferral = some target → exec .retryTimerExpiry s = .next (s.afterEvent
        ((s.waitUntil target).trigger .retry).1)) ∧
      (s.catch_.deferral = none → exec .retryTimerExpiry s = .next (s.afterEvent s)) ∧
      (∀ n target m, s.catch_.overdue.find n = some target → s.record n = some m → m.state = .delivered →
        exec (.overdueTimerExpiry n) s = .next (s.afterEvent
          ((((s.waitUntil target).requeueReport n).raise (.reportOverdue n m.span)).post .dueTest))) ∧
      (∀ n target, s.catch_.overdue.find n = some target → (∀ m, s.record n = some m → m.state ≠ .delivered) →
        exec (.overdueTimerExpiry n) s = .next (s.afterEvent
          (if s.record n = none then s.waitUntil target
          else { s.waitUntil target with catch_.overdue := s.catch_.overdue.del n }))) ∧
      (∀ n, s.catch_.overdue.find n = none → exec (.overdueTimerExpiry n) s = .next (s.afterEvent s)))) ∧
  (∀ (s : State) (n : Nat), s.requeueReport n = { s with
    store.recs := s.store.recs.upd n fun (m : MsgRec) => { m with state := .queued, delivered := none }
    catch_.overdue := s.catch_.overdue.del n }) ∧
  (∀ s : State,
    let today := s.time.now.toNat / 86400
    let decimal (k n : Nat) : List Byte := (List.range k).map fun i => BitVec.ofNat 8 (48 + n / 10 ^ (k - 1 - i) % 10)
    let line (q : Row) : List Byte :=
      q.code ++ [0x20] ++ decimal 2 q.area ++ [0x20] ++ decimal 8 q.day ++ [0x20] ++ decimal 8 q.trip ++
        (if q.unconverted then [0x20, 0x55] else []) ++ [0x0D, 0x0A]
    s.reportSpan = { fromDay := (s.catch_.spanStart.filter fun d => decide (d ≤ today)).getD today, toDay := today } ∧
    ∀ span : Span, s.reportText span =
      [0x43, 0x41, 0x54, 0x43, 0x48, 0x20] ++ decimal 7 s.settings.identity.number ++ [0x20] ++ decimal 5 span.fromDay ++
        [0x20] ++ decimal 5 span.toDay ++ [0x0D, 0x0A] ++
        ((s.catch_.rows.filter fun (q : Row) => decide (q.trip ≠ 0)).map line).flatten)

/-- DISTRESS starts or updates the own alert, DISTRESS-CANCEL turns it into a cancellation, DISTRESS-CLOSE closes an
acknowledged one. The model's choice (log entries 23, 39, 59): an alert started over the last burst of a closed one
keeps its hold, an ALERT counts as sent when handed over, and a waiting tune of the unit answers before a cancellation
begins, and a bad nature is refused before the state is tested. -/
def Obligations.OwnAlertStartedCancelledClosed : Prop :=
  (∀ (s : State) (r : Req), s.Settled →
    let d := s.distress
    (s.Passes .distress r → ∀ (nature persons : Nat),
      let p := min persons 255
      let changes := if 255 < persons then [Change.personsClamped] else []
      let answer (state : OwnState) : Answer := ⟨if 255 < persons then .partly else .ok, .own state d.serial changes⟩
      (∀ n, Nature.ofCode nature = some n → n ≠ .cancel →
        (d.state = .quiet → exec (.distress r nature persons) s = .next (s.afterRequest .distress r
          ({ s.taken r with
            distress := { d with
              state := .pending, nature := n, persons := p, started := some s.time.now, rotPos := 0, nextCycle := none
              ackStation := none, lamp := true }
            raised := [.ownAlert .initiated .pending n p d.serial (some s.time.now) none none] } : State).claimDistress
          (answer .pending))) ∧
        ((d.state = .pending ∨ d.state = .alerting) →
          let kept := if n = .undesignated then d.nature else n
          exec (.distress r nature persons) s = .next (s.afterRequest .distress r
            { s.taken r with
              distress := { d with nature := kept, persons := p }
              raised := if kept = d.nature ∧ p = d.persons then []
                else [.ownAlert .updated d.state kept p d.serial d.started d.ackStation none] }
            (answer d.state))) ∧
        (s.attend = none → (d.state = .acknowledged ∨ d.state = .cancelling) →
          exec (.distress r nature persons) s = .next (s.answered .distress r (plain .wrongState) []))) ∧
      (s.attend = none → (Nature.ofCode nature = none ∨ Nature.ofCode nature = some .cancel) →
        exec (.distress r nature persons) s = .next (s.answered .distress r (plain .badArgument) []))) ∧
    (s.Passes .distressCancel r →
      let outcome : LogOutcome := if 0 < d.sent then .complete else .radioFault
      let closed : State := match d.logEntry with
        | some n => (s.taken r).logComplete n outcome
        | none => s.taken r
      let stopped : State :=
        { closed with
          distress := { d with
            state := .cancelling, logEntry := none, slot := none, nextCycle := none, rotating := false }
          raised := [.ownAlert .cancelling .cancelling d.nature d.persons d.serial d.started d.ackStation none] }
      ((d.state = .pending ∨ d.state = .alerting) → exec (.distressCancel r) s = .next (s.afterRequest .distressCancel r
        (if d.state = .pending then stopped
        else if d.awaitTune = true ∨ d.onAir = true then { stopped with distress.cancelAfter := true }
        else stopped.startRotation) (plain .ok))) ∧
      (s.attend = none → d.state ≠ .pending → d.state ≠ .alerting →
        exec (.distressCancel r) s = .next (s.answered .distressCancel r (plain .wrongState) []))) ∧
    (s.Passes .distressClose r →
      (d.state = .acknowledged → exec (.distressClose r) s = .next (s.afterRequest .distressClose r
        (({ s.taken r with
          distress := { d with state := .quiet, lamp := false }
          raised := [.ownAlert .closed .quiet d.nature d.persons d.serial d.started d.ackStation none] } : State).post
          .dueTest) (plain .ok))) ∧
      (s.attend = none → d.state ≠ .acknowledged →
        exec (.distressClose r) s = .next (s.answered .distressClose r (plain .wrongState) [])))) ∧
  (∀ s : State,
    (s.arb.holder ≠ some .distress → s.claimDistress = s.place .distress) ∧
    (s.arb.holder = some .distress →
      (s.distress.onAir = true → s.claimDistress =
        { s with distress.releaseAfter := false, distress.grantAfter := true }) ∧
      (s.distress.onAir = false → s.claimDistress =
        { s with distress.releaseAfter := false, distress.granted := true })) ∧
    s.releaseDistress = ({ s with distress := { s.distress with
      granted := false, releaseAfter := false, grantAfter := false } } : State).giveUp .distress)

/-- The distress line arms a hold of 3 s while the part runs; releasing it disarms the hold, and its expiry initiates
an alert by the state. The model's choice (log entries 1, 38): that HOLD-TIMER-EXPIRY moves ship time to the target,
and LOG-ADVANCED for the entry of an ignored initiation. -/
def Obligations.DistressLineHeldThreeSeconds : Prop :=
  ∀ s : State, s.Settled → s.phase ≠ .off →
    exec .distressLineAsserted s = .next { s with
      distress.line := true
      distress.holdTimer := if s.phase = .running ∧ s.distress.line = false then some (s.time.now + 3#32)
        else s.distress.holdTimer } ∧
    exec .distressLineReleased s = .next { s with distress.line := false, distress.holdTimer := none } ∧
    (∀ target, s.distress.holdTimer = some target →
      let now := if passed s.time.now target then s.time.now else target
      let t : State := { s with time.now := now, distress.holdTimer := none }
      (s.distress.state = .quiet → exec .holdTimerExpiry s = .next (s.afterEvent (t.initiate .undesignated 0))) ∧
      ((s.distress.state = .pending ∨ s.distress.state = .alerting) →
        exec .holdTimerExpiry s = .next (s.afterEvent t)) ∧
      ((s.distress.state = .acknowledged ∨ s.distress.state = .cancelling) → exec .holdTimerExpiry s =
        .next (s.afterEvent (t.logMoment .alertOut s.settings.identity.number 0 .refused)))) ∧
    (s.distress.holdTimer = none → exec .holdTimerExpiry s = .next (s.afterEvent s))

/-- GRANTED begins a rotation; steps tune, send an ALERT and listen 6 s, or skip a channel; the rotation ends with a
drawn wait, and the wait begins the next. The model's choice (log entries 1, 39): that the slot and the wait move ship
time to their targets, and that an ALERT counts as sent when handed over. -/
def Obligations.AlertCycleRuns : Prop :=
  (∀ s : State, s.Settled → s.phase ≠ .off →
    let taken : State := { s with distress.granted := false }
    (s.distress.granted = true →
      (s.distress.state = .pending →
        exec .granted s = .next (s.afterEvent ({ taken with distress.state := .alerting } : State).startRotation)) ∧
      (s.distress.state = .cancelling → exec .granted s = .next (s.afterEvent taken.startRotation)) ∧
      ((s.distress.state = .quiet ∨ s.distress.state = .alerting ∨ s.distress.state = .acknowledged) →
        exec .granted s = .next (s.afterEvent taken))) ∧
    (s.distress.granted = false → exec .granted s = .next (s.afterEvent s)) ∧
    (∀ target, s.distress.slot = some target →
      let t : State := { s with
        time.now := if passed s.time.now target then s.time.now else target, distress.slot := none }
      exec .alertListenSlotExpiry s =
        .next (s.afterEvent (if s.distress.state = .alerting then t.rotationStep else t))) ∧
    (s.distress.slot = none → exec .alertListenSlotExpiry s = .next (s.afterEvent s)) ∧
    (∀ target, s.distress.nextCycle = some target →
      let t : State := { s with time.now := if passed s.time.now target then s.time.now else target }
      exec .alertCycleWaitExpiry s = .next (s.afterEvent
        (if s.distress.state = .alerting then t.startRotation else { t with distress.nextCycle := none }))) ∧
    (s.distress.nextCycle = none → exec .alertCycleWaitExpiry s = .next (s.afterEvent s))) ∧
  (∀ (s : State) (ch : Nat) (rest : List Nat), s.rotation = ch :: rest → 0 < ch →
    s.startRotation = (({ s with
      distress := { s.distress with
        serial := s.distress.serial + 1, rotPos := ch, sent := 0, logEntry := some s.log.next, rotating := true
        cancelAfter := false, nextCycle := none, awaitTune := true }
      log := (s.logWrite .alertOut s.settings.identity.number ch).log
      raised := s.raised ++ [.logAdvanced] } : State).tuneMain ch .distress)) ∧
  (∀ s : State,
    s.rotation = (s.dir.channels.filter fun e => e.2.cfg.use == .distress && !e.2.cfg.disabled).map (fun e => e.1) ∧
      (s.dir.channels.wf = true → s.rotation.Pairwise (· < ·))) ∧
  ∀ s : State,
    let d := s.distress
    let outcome : LogOutcome := if 0 < d.sent then .complete else .radioFault
    let closed : State := match d.logEntry with
      | some n => { s.logComplete n outcome with distress.logEntry := none }
      | none => s
    let drawn : BitVec 32 := 1664525#32 * s.time.prng + 1013904223#32
    let told (t : State) (serial : BitVec 8) (sent : Nat) (state : OwnState) (cause : OwnCause) : State :=
      t.raise (.ownAlert cause state d.nature d.persons serial d.started d.ackStation (some sent))
    let waiting : State :=
      { closed with
        time.prng := drawn, distress.rotating := false
        distress.nextCycle := some (s.time.now + BitVec.ofNat 32 (210 + drawn.toNat / 65536 % 61)) }
    (∀ ch, (s.rotation.find? fun n => decide (d.rotPos < n)) = some ch →
      (∀ n, d.logEntry = some n → s.rotationStep =
        ({ s with distress.rotPos := ch, distress.awaitTune := true } : State).tuneMain ch .distress) ∧
      (d.logEntry = none → s.rotationStep = ({ s.logWrite .alertOut s.settings.identity.number ch with
        distress := { d with logEntry := some s.log.next, rotPos := ch, awaitTune := true } } : State).tuneMain ch
          .distress)) ∧
    ((∀ n ∈ s.rotation, n ≤ d.rotPos) →
      (d.state ≠ .cancelling → s.rotationStep = if d.sent = 0 then told waiting d.serial d.sent d.state .noChannel else waiting) ∧
      (d.state = .cancelling → s.rotationStep = (told ({ closed with
        distress.rotating := false, distress.state := .quiet, distress.lamp := false } : State).releaseDistress
          d.serial d.sent .quiet .cancelled).post .dueTest)) ∧
    (s.rotation = [] → d.state ≠ .cancelling → s.startRotation =
      { s with
        time.prng := drawn
        distress := { d with
          serial := d.serial + 1, rotPos := 0, sent := 0, logEntry := none, rotating := false, cancelAfter := false
          nextCycle := some (s.time.now + BitVec.ofNat 32 (210 + drawn.toNat / 65536 % 61)) }
        raised := s.raised ++
          [.ownAlert .noChannel d.state d.nature d.persons (d.serial + 1) d.started d.ackStation (some 0)] }) ∧
    (s.rotation = [] → d.state = .cancelling → s.startRotation = (told (({ s with
      distress := { d with
        serial := d.serial + 1, rotPos := 0, sent := 0, logEntry := none, rotating := false, cancelAfter := false
        nextCycle := none, state := .quiet, lamp := false } } : State).releaseDistress) (d.serial + 1) 0 .quiet
          .cancelled).post .dueTest) ∧
    (d.awaitTune = true → d.cancelAfter = true → ∀ ready,
      s.alertTuned ready = ({ s with distress.awaitTune := false } : State).startRotation) ∧
    (d.awaitTune = true → d.cancelAfter = false → d.rotating = true →
      (let alert : TxAlert :=
        { ship := s.settings.identity.number
          nature := if d.state = .cancelling then .cancel else d.nature
          lat := s.time.fix.elim 0 fun (f : Fix) => f.lat
          lon := s.time.fix.elim 0 fun (f : Fix) => f.lon
          fixTime := s.time.fix.elim 0 fun (f : Fix) => f.time
          stale := s.time.fix.elim true fun (f : Fix) => decide (600 < (s.time.now - f.time).toNat)
          persons := min d.persons 255, serial := d.serial }
      s.alertTuned true = ({ s with distress := { d with
        awaitTune := false, onAir := true, sent := d.sent + 1 } } : State).sendBurst (.alert alert)) ∧
      s.alertTuned false = ({ s with distress.awaitTune := false } : State).rotationStep) ∧
    (d.releaseAfter = true → s.alertSent = ({ s with distress.onAir := false } : State).releaseDistress) ∧
    (d.releaseAfter = false → d.grantAfter = true → s.alertSent = { s with
      distress := { d with onAir := false, grantAfter := false, granted := true } }) ∧
    (d.releaseAfter = false → d.grantAfter = false → d.cancelAfter = true →
      s.alertSent = ({ s with distress.onAir := false } : State).startRotation) ∧
    (d.releaseAfter = false → d.grantAfter = false → d.cancelAfter = false → (d.rotating = false ∨ d.awaitTune = true) →
      s.alertSent = { s with distress.onAir := false }) ∧
    (d.releaseAfter = false → d.grantAfter = false → d.cancelAfter = false → d.rotating = true → d.awaitTune = false →
      s.alertSent = if d.state = .cancelling then ({ s with distress.onAir := false } : State).rotationStep
        else { s with distress.onAir := false, distress.slot := some (s.time.now + 6#32) })

/-- An ALERT is listed, repeated or cancelled, with one of 16 entries leaving a full list; ALARM-ACK marks entries
SEEN up to a serial and silences the alarm. -/
def Obligations.AlertsHeardAndAcknowledged : Prop :=
  (∀ (s : State) (path : Path) (a : RxAlert), s.Settled → s.phase = .running →
    let searching (t : State) : State := match path with
      | .main => { t with mainPath := .searching }
      | .watch => { t with watchPath := .searching }
    let channel := match path with
      | .main => s.main.tuned.getD 0
      | .watch => s.watch.pos
    let heard := path = .watch ∨ s.distress.slot ≠ none
    let own := a.ship = s.settings.identity.number
    let live := s.distress.list.any fun e => e.ship == a.ship && e.state != .cancelled
    let nature := (Nature.ofCode a.nature).getD .undesignated
    let stale := a.stale || !latInRange a.lat || !lonInRange a.lon
    let serial := if 65535 ≤ s.distress.highest then 1 else s.distress.highest + 1
    let entry : DistressEntry :=
      { ship := a.ship, nature, lat := a.lat, lon := a.lon, fixTime := a.fixTime, stale, persons := a.persons, channel
        first := s.time.now, last := s.time.now, count := 1, serial, state := .new }
    let joins (l : List DistressEntry) : Host.Outcome State Fault Refusal := .next (s.afterEvent (searching
      (({ s with
        distress.list := l ++ [entry], distress.highest := serial
        distress.alarm := true, distress.alarmLine := s.distress.alarmLine || !s.distress.alarm
        raised := if s.distress.alarm then []
          else [.distressReceived serial
            (((l ++ [entry]).find? fun (e : DistressEntry) => e.serial == serial).map
              fun (e : DistressEntry) => (e.ship, e.nature, e.lat, e.lon))
            ((l ++ [entry]).countP fun (e : DistressEntry) => e.state = .new)] } : State).logMoment .alertIn a.ship channel
        .complete)))
    let tier (e : DistressEntry) : Nat := match e.state with
      | .cancelled | .shoreAcked => 0
      | .seen => 1
      | .new => 2
    let old (e : DistressEntry) : Nat := (s.time.now - e.last).toNat
    let sooner (e d : DistressEntry) : Prop := tier e < tier d ∨ (tier e = tier d ∧ (old d < old e ∨
      (old e = old d ∧ e.serial ≠ d.serial ∧ (d.serial + 65536 - e.serial) % 65536 < 32768)))
    (s.pathHeld path = true → exec (.alertBurst path a) s = .next (s.afterEvent s)) ∧
    (s.pathHeld path = false →
      ((own ∨ ¬heard) → exec (.alertBurst path a) s = .next (s.afterEvent (searching s))) ∧
      (¬own → heard →
        (live = false → nature ≠ .cancel → s.distress.list.length < 16 →
          exec (.alertBurst path a) s = joins s.distress.list) ∧
        (live = false → nature ≠ .cancel → 16 ≤ s.distress.list.length → ∀ e ∈ s.distress.list,
          (∀ d ∈ s.distress.list, d ≠ e → sooner e d ∧ ¬sooner d e) →
          exec (.alertBurst path a) s = joins (s.distress.list.filter fun d => decide (d ≠ e))) ∧
        (live = true → nature ≠ .cancel → exec (.alertBurst path a) s = .next (s.afterEvent (searching
          { s with
            distress.list := s.distress.list.map fun (e : DistressEntry) =>
              if e.ship = a.ship ∧ e.state ≠ .cancelled then
                let again := { e with
                  last := s.time.now, channel := channel, count := min (e.count + 1) 255, nature := nature
                  persons := a.persons }
                if 1 ≤ (a.fixTime - e.fixTime).toNat ∧ (a.fixTime - e.fixTime).toNat < 2 ^ 31 then
                  { again with lat := a.lat, lon := a.lon, fixTime := a.fixTime, stale := stale }
                else again
              else e }))) ∧
        (nature = .cancel → exec (.alertBurst path a) s = .next (s.afterEvent (searching
          (({ s with
            distress.list := s.distress.list.map fun (e : DistressEntry) =>
              if e.ship = a.ship ∧ e.state ≠ .cancelled then
                { e with
                  last := s.time.now, channel := channel, count := min (e.count + 1) 255, state := .cancelled }
              else e } : State).logMoment .alertIn a.ship channel .complete))))))) ∧
  (∀ (s : State) (r : Req) (given : Nat), s.Settled → s.Passes .alarmAck r →
    let upTo (e x : Nat) : Bool := decide ((x + 65536 - e) % 65536 < 32768)
    let applied := if upTo given s.distress.highest then given else s.distress.highest
    let changes := if applied = given then [] else [Change.serialClamped applied]
    let code : Code := if applied = given then .ok else .partly
    let seen : List DistressEntry := s.distress.list.map fun (e : DistressEntry) =>
      if e.state = .new ∧ upTo e.serial applied = true then { e with state := .seen } else e
    let count := s.distress.list.countP fun e => e.state = .new ∧ upTo e.serial applied = true
    let left := seen.countP fun e => e.state = .new
    (given = 0 → exec (.alarmAck r given) s = .next (s.answered .alarmAck r (plain .badArgument) [])) ∧
    (given ≠ 0 →
      (s.distress.alarm = false → exec (.alarmAck r given) s =
        .next (s.answered .alarmAck r ⟨code, .alarm applied 0 false changes⟩ [])) ∧
      (s.distress.alarm = true → left = 0 → exec (.alarmAck r given) s =
        .next ({ s with distress.list := seen, distress.alarm := false, distress.alarmLine := false }.answered .alarmAck r
          ⟨code, .alarm applied count false changes⟩ [.alarmAcked applied r.port])) ∧
      (s.distress.alarm = true → left ≠ 0 → exec (.alarmAck r given) s =
        .next ({ s with distress.list := seen }.answered .alarmAck r ⟨code, .alarm applied count true changes⟩
          [.distressReceived s.distress.highest
            ((seen.find? fun (e : DistressEntry) => e.serial == s.distress.highest).map fun (e : DistressEntry) =>
              (e.ship, e.nature, e.lat, e.lon))
            left]))))

/-- A main tune ends READY or FAULT by an answer with its tag or by its timer; three faults in a row end service;
RADIO-RESTORE ends an outage of either radio. The model's choice (log entries 1, 16, 29, 36, 61): that the tune timer
moves ship time to its target, a tune answered before its command has gone out, a waiting tune sent after the arbiter
has acted on the outage, and the scan before BACK-IN-SERVICE at RADIO-RESTORE, and the notice of MAIN before that of
WATCH, and a waiting tune before a waiting burst. -/
def Obligations.MainTuneEnds : Prop :=
  (∀ s : State, s.Settled → s.phase ≠ .off →
    let told (t : Tune) (ready out : Bool) : List Msg := match t.requester with
      | some c => [.tuned c ready out]
      | none => []
    let ready (u : State) (t : Tune) : State := ({ u with
      main.flight := none, main.tuned := some t.channel, main.faults := 0
      msgs := told t true (!s.main.inService) } : State).sendWaitingTune.nextBurst
    let dropped (t : Tune) (out : Bool) : List Msg := match s.arb.holder with
      | some h => if s.main.burstQ = [] ∨ t.requester = some h then [] else [.tuned h false out]
      | none => []
    let fault (u : State) (t : Tune) : State :=
      if s.main.inService = true ∧ 2 ≤ s.main.faults then
        { u with
          main.flight := none, main.tuned := none, main.faults := 3, main.burstQ := [], main.inService := false
          raised := [.radioFault .main false .faults (some t.channel)]
          msgs := told t false true ++ dropped t true ++ [.radioOut] }
      else ({ u with
        main.flight := none, main.tuned := none, main.faults := min (s.main.faults + 1) 3, main.burstQ := []
        msgs := told t false (!s.main.inService) ++ dropped t (!s.main.inService) } : State).sendWaitingTune
    let hunts : State := { s with controlRx := .searching }
    (∀ (tag : BitVec 8) (result : Nat),
      exec (.mainTuneAnswer false tag result) s = .next (s.afterEvent hunts) ∧
      (s.main.flight = none → exec (.mainTuneAnswer true tag result) s = .next (s.afterEvent hunts)) ∧
      (∀ t, s.main.flight = some t →
        (t.tag ≠ tag → exec (.mainTuneAnswer true tag result) s = .next (s.afterEvent hunts)) ∧
        (t.tag = tag → result = 0 → exec (.mainTuneAnswer true tag result) s = .next (s.afterEvent (ready hunts t))) ∧
        (t.tag = tag → result ≠ 0 →
          exec (.mainTuneAnswer true tag result) s = .next (s.afterEvent (fault hunts t))))) ∧
    (s.main.flight = none → exec .mainTuneTimerExpiry s = .next (s.afterEvent s)) ∧
    (∀ t, s.main.flight = some t →
      (t.timer = none → exec .mainTuneTimerExpiry s = .next (s.afterEvent s)) ∧
      (∀ target, t.timer = some target → exec .mainTuneTimerExpiry s = .next (s.afterEvent (fault
        { s with time.now := if passed s.time.now target then s.time.now else target } t))))) ∧
  ∀ (s : State) (r : Req), s.Settled → s.Passes .radioRestore r →
    let main : State := { s.taken r with
      main.faults := 0, main.inService := true
      raised := if s.main.inService then [] else [.radioFault .main true .restored none]
      msgs := if s.main.inService then [] else [.backInService] }
    let both : State :=
      if s.watch.inService then { main with watch.faults := 0 }
      else ({ main with
        watch.faults := 0, watch.inService := true
        raised := main.raised ++ [.radioFault .watch true .restored none] } : State).watchStep
    exec (.radioRestore r) s =
      .next (s.afterRequest .radioRestore r both ⟨.ok, .restored s.main.inService s.watch.inService⟩)

/-- The watch receiver dwells two seconds on each channel of the rotation, tuning where it must; a third fault in a
row stops it. The model's choice (log entries 1, 29): that the timers move ship time to their targets, and a tune
answered before its command has gone out. -/
def Obligations.WatchScanSteps : Prop :=
  (∀ s : State, s.Settled → s.phase ≠ .off →
    let fault (u : State) (t : Tune) : State :=
      if s.watch.inService = true ∧ 2 ≤ s.watch.faults then
        { u with
          watch := { s.watch with
            flight := none, tuned := none, faults := 3, inService := false, dwell := .stopped, timer := none }
          raised := [.radioFault .watch false .faults (some t.channel)] }
      else ({ u with
        watch := { s.watch with flight := none, tuned := none, faults := min (s.watch.faults + 1) 3 } } : State).watchStep
    let hunts : State := { s with controlRx := .searching }
    let at_ (target : Time) : State :=
      { s with time.now := if passed s.time.now target then s.time.now else target }
    (∀ (tag : BitVec 8) (result : Nat),
      exec (.watchTuneAnswer false tag result) s = .next (s.afterLocal hunts) ∧
      (s.watch.flight = none → exec (.watchTuneAnswer true tag result) s = .next (s.afterLocal hunts)) ∧
      (∀ t, s.watch.flight = some t →
        (t.tag ≠ tag → exec (.watchTuneAnswer true tag result) s = .next (s.afterLocal hunts)) ∧
        (t.tag = tag → result = 0 → exec (.watchTuneAnswer true tag result) s = .next (s.afterLocal
          { hunts with watch := { s.watch with
              flight := none, tuned := some t.channel, faults := 0, dwell := .dwelling, timer := some (s.time.now + 2#32) } })) ∧
        (t.tag = tag → result ≠ 0 →
          exec (.watchTuneAnswer true tag result) s = .next (s.afterLocal (fault hunts t))))) ∧
    (s.watch.flight = none → exec .watchTuneTimerExpiry s = .next s) ∧
    (∀ t, s.watch.flight = some t →
      (t.timer = none → exec .watchTuneTimerExpiry s = .next s) ∧
      (∀ target, t.timer = some target →
        exec .watchTuneTimerExpiry s = .next (s.afterLocal (fault (at_ target) t)))) ∧
    (∀ target, s.watch.timer = some target →
      let stepped : State := ({ at_ target with watch.timer := none } : State).watchStep
      (s.watch.dwell = .dwelling → exec .dwellExpiry s = .next (s.afterLocal stepped)) ∧
      (s.watch.dwell = .idleDwell → exec .idleDwellExpiry s = .next (s.afterLocal stepped))) ∧
    ((s.watch.timer = none ∨ s.watch.dwell ≠ .dwelling) → exec .dwellExpiry s = .next s) ∧
    ((s.watch.timer = none ∨ s.watch.dwell ≠ .idleDwell) → exec .idleDwellExpiry s = .next s)) ∧
  (∀ s : State,
    s.rotation = (s.dir.channels.filter fun e => e.2.cfg.use == .distress && !e.2.cfg.disabled).map (fun e => e.1) ∧
      (s.dir.channels.wf = true → s.rotation.Pairwise (· < ·))) ∧
  ∀ s : State,
    (s.rotation = [] → s.watchStep =
      { s with watch.dwell := .idleDwell, watch.timer := some (s.time.now + 2#32) }) ∧
    (∀ n, ((s.rotation.find? fun m => s.watch.pos < m).or s.rotation.head?) = some n →
      (s.watch.tuned = some n → s.watchStep =
        { s with watch.pos := n, watch.dwell := .dwelling, watch.timer := some (s.time.now + 2#32) }) ∧
      (s.watch.tuned ≠ some n → s.watchStep = { s with
        ctl := { tag := s.ctl.tag + 1, cmds := s.ctl.cmds ++ [{
          radio := .watch, tag := s.ctl.tag, kind := .tune, tx := 0
          rx := (s.channel n).elim 0 fun (c : Channel) => c.cfg.rx }] }
        watch := { s.watch with
          pos := n, dwell := .tuning, timer := none
          flight := some { channel := n, requester := none, tag := s.ctl.tag, timer := none } } }))

/-- A burst handed over is keyed, or waits behind a burst on the air or a tune in flight; a command that has gone out
starts its tune's timer or the key-up time; the bits follow; a burst that ends sends UNKEY and lets the next one go. The
model's choice (log entry 29): BURST-END ends a burst in any phase of its sending. -/
def Obligations.CommandsGoOutAndBurstsEnd : Prop :=
  (∀ s : State, s.Settled → s.phase ≠ .off →
    (s.ctl.cmds = [] → exec .controlCommandSent s = .next s) ∧
    (∀ c rest, s.ctl.cmds = c :: rest →
      let started (t : Tune) : Tune := if t.tag = c.tag then { t with timer := some (s.time.now + 3#32) } else t
      (c.kind = .tune → c.radio = .main →
        exec .controlCommandSent s = .next { s with ctl.cmds := rest, main.flight := s.main.flight.map started }) ∧
      (c.kind = .tune → c.radio = .watch →
        exec .controlCommandSent s = .next { s with ctl.cmds := rest, watch.flight := s.watch.flight.map started }) ∧
      (c.kind = .key → ∀ b, s.main.onAir = some (b, .keying c.tag) →
        exec .controlCommandSent s = .next { s with ctl.cmds := rest, main.onAir := some (b, .keyUp) }) ∧
      (c.kind = .key → (∀ b, s.main.onAir ≠ some (b, .keying c.tag)) →
        exec .controlCommandSent s = .next { s with ctl.cmds := rest }) ∧
      (c.kind = .unkey → exec .controlCommandSent s = .next { s with ctl.cmds := rest })) ∧
    (∀ b, s.main.onAir = some (b, .keyUp) → exec .keyUpTimeExpiry s = .next { s with main.onAir := some (b, .bits) }) ∧
    ((∀ b, s.main.onAir ≠ some (b, .keyUp)) → exec .keyUpTimeExpiry s = .next s) ∧
    (s.main.onAir = none → exec .burstEnd s = .next (s.afterEvent s)) ∧
    (∀ b p, s.main.onAir = some (b, p) →
      let unkey : ControlCmd := { radio := .main, tag := s.ctl.tag, kind := .unkey, tx := 0, rx := 0 }
      let key : ControlCmd := { radio := .main, tag := s.ctl.tag + 1, kind := .key, tx := 0, rx := 0 }
      (s.main.burstQ = [] → exec .burstEnd s = .next (s.afterEvent { s with
        ctl := { tag := s.ctl.tag + 1, cmds := s.ctl.cmds ++ [unkey] }
        main.keyed := false, main.onAir := none, msgs := [.burstEnded b] })) ∧
      (∀ next rest, s.main.burstQ = next :: rest → s.main.flight = none → exec .burstEnd s = .next (s.afterEvent { s with
        ctl := { tag := s.ctl.tag + 1 + 1, cmds := s.ctl.cmds ++ [unkey] ++ [key] }
        main := { s.main with keyed := true, onAir := some (next, .keying (s.ctl.tag + 1)), burstQ := rest }
        msgs := [.burstEnded b] })) ∧
      (s.main.burstQ ≠ [] → s.main.flight.isSome = true → exec .burstEnd s = .next (s.afterEvent { s with
        ctl := { tag := s.ctl.tag + 1, cmds := s.ctl.cmds ++ [unkey] }
        main.keyed := false, main.onAir := none, msgs := [.burstEnded b] })))) ∧
  ∀ s : State,
    let keyed (b : Burst) (waiting : List Burst) : State := { s with
      ctl := {
        tag := s.ctl.tag + 1
        cmds := s.ctl.cmds ++ [{ radio := .main, tag := s.ctl.tag, kind := .key, tx := 0, rx := 0 }] }
      main := { s.main with keyed := true, onAir := some (b, .keying s.ctl.tag), burstQ := waiting } }
    (∀ b, (s.main.onAir = none → s.main.flight = none → s.sendBurst b = keyed b s.main.burstQ) ∧
      ((s.main.onAir ≠ none ∨ s.main.flight ≠ none) →
        s.sendBurst b = { s with main.burstQ := s.main.burstQ ++ [b] })) ∧
    (∀ b rest, s.main.onAir = none → s.main.flight = none → s.main.burstQ = b :: rest → s.nextBurst = keyed b rest) ∧
    ((s.main.onAir ≠ none ∨ s.main.flight ≠ none ∨ s.main.burstQ = []) → s.nextBurst = s)

/-- GRANT-SET edits the bits that the requesting port holds; DISTRESS-LEVEL-SET sets the floor, at most 3; SHIP-SET
sets the identity while no alert is active. -/
def Obligations.GrantsLevelAndShipSet : Prop :=
  (∀ (s : State) (r : Req), s.Settled →
    (s.Passes .grantSet r → ∀ (port : Nat) (given : Half),
      let mask := (s.ports.get r.port).held s.settings.distressLevel
      (Port.ofNumber port = none →
        exec (.grantSet r port given) s = .next (s.answered .grantSet r (plain .badArgument) [])) ∧
      (∀ p, Port.ofNumber port = some p →
        let map := ((s.ports.get p).map &&& ~~~mask) ||| (given &&& mask)
        exec (.grantSet r port given) s =
          .next ({ s with ports := s.ports.set p { s.ports.get p with map := map } }.answered .grantSet r
            ⟨if mask = 0xFFFF then .ok else .partly, .grants mask map⟩ []))) ∧
    (s.Passes .distressLevelSet r → ∀ level : Nat,
      exec (.distressLevelSet r level) s =
        .next ({ s with settings.distressLevel := if 3 < level then 3 else level }.answered .distressLevelSet r
          (if 3 < level then ⟨.partly, .changes [.levelClamped]⟩ else plain .ok) [])) ∧
    (s.Passes .shipSet r → ∀ (number : Nat) (name callSign : List Byte),
      let cuts := (if 16 < name.length then [Change.nameCut] else []) ++
        if 8 < callSign.length then [Change.callSignCut] else []
      (s.distress.state ≠ .quiet →
        exec (.shipSet r number name callSign) s = .next (s.answered .shipSet r (plain .distressActive) [])) ∧
      (s.distress.state = .quiet → ¬(1000000 ≤ number ∧ number ≤ 9999999) →
        exec (.shipSet r number name callSign) s = .next (s.answered .shipSet r (plain .badArgument) [])) ∧
      (s.distress.state = .quiet → 1000000 ≤ number → number ≤ 9999999 →
        exec (.shipSet r number name callSign) s = .next ({ s with
          settings.identity := {
            number := number, name := (name.map normByte).take 16, callSign := (callSign.map normByte).take 8 }
          settings.defaulted := false }.answered .shipSet r
            (if cuts = [] then plain .ok else ⟨.partly, .changes cuts⟩) [])))) ∧
  ∀ (p : PortState) (level : Nat) (g : Grant), (p.held level).getLsbD g.bit = p.holds level g

/-- ROUTE-SET sets the port's own choices, POLL returns and clears its flags, STATUS tells the state of port and part,
whatever its grants. -/
def Obligations.PortsRoutePollStatus : Prop :=
  (∀ (s : State) (r : Req) (kinds : Half), s.Settled → s.phase = .running → r.fits = true →
    (s.ports.get r.port).outQ.length < 64 →
    (s.settings.saveState ≠ .idle → exec (.routeSet r kinds) s = .next (s.answered .routeSet r (plain .inUse) [])) ∧
    (s.settings.saveState = .idle →
      let old := s.ports.get r.port
      let new : PortState := { old with
        choices := kinds, hunting := true, freshHunt := true
        outQ := old.outQ ++ [.answer r.tag .routeSet (plain .ok)] }
      exec (.routeSet r kinds) s = .next { s with ports := s.ports.set r.port new } ∧
      ∀ n : Notice, 8 ≤ n.kind → new.take n =
        if kinds.getLsbD (n.kind - 8) = true then
          (if new.outQ.length < 48 then { new with outQ := new.outQ ++ [.notice n] }
          else { new with flags := new.flags ||| (1#16 <<< (n.kind - 8)), overrun := true })
        else { new with flags := new.flags ||| (1#16 <<< (n.kind - 8)) })) ∧
  ((∀ (s : State) (r : Req), s.Settled → s.phase = .running → r.fits = true → (s.ports.get r.port).outQ.length < 64 →
    let old := s.ports.get r.port
    let answered (a : Answer) : PortState := { old with
      flags := 0, overrun := false, hunting := true, freshHunt := true, outQ := old.outQ ++ [.answer r.tag .poll a] }
    (old.flags = 0 → old.overrun = false →
      exec (.poll r) s = .next { s with ports := s.ports.set r.port (answered (plain .empty)) }) ∧
    ((old.flags ≠ 0 ∨ old.overrun = true) →
      exec (.poll r) s =
        .next { s with ports := s.ports.set r.port (answered ⟨.ok, .flags old.flags old.overrun⟩) }) ∧
    ∀ (n : Notice) (a : Answer), 8 ≤ n.kind → old.choices.getLsbD (n.kind - 8) = false →
      (old.take n).flags = old.flags ||| (1#16 <<< (n.kind - 8)) ∧
      ((answered a).take n).flags = 1#16 <<< (n.kind - 8)) ∧
  ∀ n : Notice, 8 ≤ n.kind → (1#16 <<< (n.kind - 8)).getLsbD (n.kind - 8) = true) ∧
  ((∀ (s : State) (r : Req), s.Settled → s.phase = .running → r.fits = true → (s.ports.get r.port).outQ.length < 64 →
    let old := s.ports.get r.port
    let told : Answer := ⟨.ok, .status old.level (old.held s.settings.distressLevel) old.map old.frameError
      s.store.free.length (128 - s.store.recs.length) s.distress.state s.main.inService s.watch.inService s.time.source
      (s.handler.silence.map fun (q : Silence) => (q.imposer, q.endTime)) s.settings.saveState s.settings.lastSave
      (!s.settings.loadGood) s.settings.identity.number s.settings.defaulted⟩
    exec (.status r) s = .next { s with ports := s.ports.set r.port { old with
      frameError := false, hunting := true, freshHunt := true
      outQ := old.outQ ++ [.answer r.tag .status told] } }) ∧
  ∀ (p : PortState) (level : Nat) (g : Grant), (p.held level).getLsbD g.bit = p.holds level g)

/-- The console receivers hunt and read frames, set the frame-error flag, and send queued frames; the link receivers
hunt again after a gap. -/
def Obligations.ReceiversHuntAndRead : Prop :=
  ∀ s : State, s.Settled → s.phase ≠ .off →
    (∀ p : Port,
      let old := s.ports.get p
      let bad : State := { s with ports := s.ports.set p { old with hunting := true, freshHunt := true, frameError := true } }
      exec (.badFrame p) s = .next bad ∧
      (old.hunting = false → exec (.consoleInterByteTimeout p) s = .next bad) ∧
      (old.hunting = true → exec (.consoleInterByteTimeout p) s = .next s) ∧
      exec (.consoleStartByte p) s =
        .next { s with ports := s.ports.set p { old with hunting := false, freshHunt := false } } ∧
      (old.hunting = true → old.freshHunt = true → exec (.huntingByteDiscarded p) s =
        .next { s with ports := s.ports.set p { old with freshHunt := false, frameError := true } }) ∧
      ((old.hunting = false ∨ old.freshHunt = false) → exec (.huntingByteDiscarded p) s = .next s) ∧
      (∀ f rest, old.outQ = f :: rest →
        exec (.outputFrameSent p) s = .next { s with ports := s.ports.set p { old with outQ := rest } }) ∧
      (old.outQ = [] → exec (.outputFrameSent p) s = .next s)) ∧
    exec (.linkStartByte .control) s = .next { s with controlRx := .reading } ∧
    exec (.linkStartByte .navigation) s = .next { s with navRx := .reading } ∧
    exec (.linkInterByteTimeout .control) s = .next { s with controlRx := .searching } ∧
    exec (.linkInterByteTimeout .navigation) s = .next { s with navRx := .searching }

/-- SAVE-SETTINGS starts or queues a write of the settings image; a write that ends leaves its result in the serial
memory, and the next waiting write starts. The model's choice (log entries 4, 43): what a FAILED write leaves in the
memory, and the order of a save behind a second tally copy. -/
def Obligations.SavesAreWrittenInTurn : Prop :=
  ((∀ (s : State) (r : Req), s.Settled → s.Passes .saveSettings r →
    (s.settings.saveState ≠ .idle →
      exec (.saveSettings r) s = .next (s.answered .saveSettings r (plain .inUse) [])) ∧
    (s.settings.saveState = .idle →
      (s.settings.writing = none → exec (.saveSettings r) s =
        .next ({ s with settings.writing := some (SerialWrite.settings s.imageCopy) }.answered .saveSettings r
          ⟨.ok, .saving false⟩ [])) ∧
      (∀ w, s.settings.writing = some w → exec (.saveSettings r) s =
        .next ({ s with settings.queue := s.settings.queue ++ [SerialWrite.settings s.imageCopy] }.answered .saveSettings r
          ⟨.ok, .saving true⟩ [])))) ∧
  ∀ (s : State) (result : WriteResult), s.Settled → s.phase ≠ .off →
    let left {α : Type} (copy : α) (old : Option α) : Option α := match result with
      | .done => some copy
      | .failedKept => old
      | .failedBad => none
    let failed := decide (result ≠ .done)
    (∀ i, s.settings.writing = some (.settings i) → exec (.settingsWriteEnd result) s =
      .next (({ s with settings := { s.settings with
          image := left i s.settings.image, lastSave := if failed then .failed else .done
          writing := s.settings.queue.head?, queue := s.settings.queue.tail } } : State).noticed
        (if failed then [Notice.settingsLost .settings .saveFailed] else []))) ∧
    ((∀ i, s.settings.writing ≠ some (.settings i)) → exec (.settingsWriteEnd result) s = .next s) ∧
    (∀ t, s.settings.writing = some (.tally t) → exec (.tallyWriteEnd result) s =
      .next (({ s with settings := { s.settings with
          tallyImage := left t s.settings.tallyImage
          writing := s.settings.queue.head?, queue := s.settings.queue.tail } } : State).noticed
        (if failed then [Notice.settingsLost .tally .saveFailed] else []))) ∧
    ((∀ t, s.settings.writing ≠ some (.tally t)) → exec (.tallyWriteEnd result) s = .next s)) ∧
  (∀ s : State, s.imageCopy = {
    identity := s.settings.identity
    stations := s.dir.stations.map fun (e : Nat × Station) => (e.1, e.2.cfg)
    channels := s.dir.channels.map fun (e : Nat × Channel) => (e.1, e.2.cfg)
    schedule := s.bcast.schedule.map fun (e : Nat × Schedule) => (e.1, e.2.cfg)
    areas := s.time.areas
    species := s.catch_.species.map fun (e : Nat × Species) => (e.1, e.2.cfg)
    factors := s.catch_.factors, individual := s.handler.individual, collective := s.handler.collective
    maps := ⟨s.ports.p1.map, s.ports.p2.map, s.ports.p3.map⟩
    choices := ⟨s.ports.p1.choices, s.ports.p2.choices, s.ports.p3.choices⟩
    distressLevel := s.settings.distressLevel, watchStation := s.link.watchStation, watchAreas := s.time.watchAreas
    reportTime := s.catch_.reportTime })

/-- POWER-LOSS loses working memory, POWER-ON samples the straps and loads the images, RESTART ends what is in flight
and reloads, and LOADING-END begins the blocks. The model's choice (log entries 7, 13, 20, 22, 24, 28, 35, 36, 45, 54,
59, 62, 63, 65, 70): POWER-ON in any phase, the due test and the scan step at the end of loading, and RESTART in detail, the
day of an entry new in the schedule, quota flags kept by code, the order in which records are freed, and no message
number in the entries it completes included, the day before day 0, and the tally result that STARTED repeats, and
RESTART refused for the alert before the save, the unstated conditions on a good image, the fixed acceptance cells and
the order of the factor entries of an image not tested, and the identity no longer defaulted after a POWER-ON with a good image. -/
def Obligations.PowerLoadingAndRestart : Prop :=
  let defaults : SettingsImage :=
    { identity := { number := 1000000, name := [], callSign := [] }
      stations := [], channels := [], schedule := [], areas := [], species := [], factors := []
      individual := .refuse :: (List.replicate 12 .accept ++ List.replicate 3 .refuse)
      collective := (List.range 16).map fun n => if n = 3 ∨ n = 7 ∨ n = 8 ∨ n = 9 ∨ n = 10 then .accept else .refuse
      maps := ⟨0, 0, 0⟩, choices := ⟨0xFFFF, 0xFFFF, 0xFFFF⟩, distressLevel := 3, watchStation := none
      watchAreas := [], reportTime := 1380 }
  let loads (old t : State) (image : Option SettingsImage) : Prop :=
    ∃ i : SettingsImage,
      ((image = some i ∧ i.good = true ∧ t.settings.loadGood = true) ∨
        ((∀ j, image = some j → j.good = false) ∧ i = defaults ∧ t.settings.loadGood = false)) ∧
      t.settings.identity = i.identity ∧
      t.settings.distressLevel = i.distressLevel ∧ t.time.prng = BitVec.ofNat 32 i.identity.number ∧
      t.dir.stations = i.stations.map (fun e => (e.1,
        { cfg := e.2, shoreHold := false, consoleHold := false, nextCall := none, nextCallArmed := false, noChannel := false
          k := match old.dir.stations.find e.1 with
            | some x => if x.cfg.number = e.2.number then x.k else 0
            | none => 0 })) ∧
      t.dir.channels = i.channels.map (fun e => (e.1,
        match (old.dir.channels.find e.1).filter fun c =>
            decide (c.cfg.tx = e.2.tx ∧ c.cfg.rx = e.2.rx ∧ c.cfg.use = e.2.use) with
        | some c => { cfg := e.2, q := c.q, lastFail := c.lastFail }
        | none => { cfg := e.2, q := 500, lastFail := none })) ∧
      t.bcast.schedule = i.schedule.map (fun e => (e.1,
        { cfg := e.2
          lastTaken := match old.bcast.schedule.find e.1 with
            | some x => x.lastTaken
            | none => if old.time.source = .unset then none else some (latestDay old.time.now e.2.start) })) ∧
      t.time.areas = i.areas ∧ t.time.watchAreas = i.watchAreas ∧
      t.time.areaSet = (t.time.fix.filter fun f => decide ((t.time.now - f.time).toNat ≤ 600)).map
        (fun f => areasAt i.areas f.lat f.lon) ∧
      t.catch_.factors = i.factors.foldr putFactor [] ∧ t.catch_.reportTime = i.reportTime ∧
      t.catch_.species.map (fun e => (e.1, e.2.cfg)) = i.species ∧
      (∀ e ∈ t.catch_.species,
        let sum := ((t.catch_.rows.filter fun x => x.code == e.2.cfg.code).map fun x => x.trip).sum
        e.2.state = if e.2.cfg.quota = 0 then .none else if e.2.cfg.quota ≤ sum then .reached
          else if 90 * e.2.cfg.quota ≤ 100 * sum then .near else .none) ∧
      t.handler.individual = i.individual ∧ t.handler.collective = i.collective ∧ t.link.watchStation = i.watchStation ∧
      ∀ p, (t.ports.get p).map = i.maps.get p ∧ (t.ports.get p).choices = i.choices.get p
  let mainStart : MainRadio :=
    { tuned := none, flight := none, nextTune := none, keyed := false, faults := 0, inService := true, onAir := none
      burstQ := [] }
  let watchStart : WatchRadio :=
    { pos := 0, dwell := .stopped, tuned := none, flight := none, timer := none, faults := 0, inService := true }
  let begins (t : State) : Prop :=
    t.phase = .loading ∧ t.msgs = [] ∧ t.raised = [] ∧
      t.link = { state := .idle, watchStation := t.link.watchStation, watchChannel := none, round := none, await := none
                 session := none } ∧
      t.handler.silence = none ∧ t.handler.last = none ∧ t.handler.recent = [] ∧ t.bcast.windows = [] ∧
      t.catch_.deferral = none ∧ t.arb = { holder := none, waiting := [], yieldAsked := false } ∧ t.main = mainStart ∧
      t.watch = watchStart ∧ t.mainPath = .searching ∧ t.watchPath = .searching
  (∀ i : SettingsImage,
    let telex (n : Nat) (l : List Byte) : Prop := l.length ≤ n ∧ ∀ x ∈ l, isTelex x = true
    let code (l : List Byte) : Prop := l.length = 3 ∧ ∀ x ∈ l, isCapital x = true
    i.good = true ↔
      (1000000 ≤ i.identity.number ∧ i.identity.number ≤ 9999999 ∧ telex 16 i.identity.name ∧
        telex 8 i.identity.callSign) ∧
      (i.stations.wf = true ∧ (∀ e ∈ i.stations, 1 ≤ e.1 ∧ e.1 ≤ 16 ∧ 10000 ≤ e.2.number ∧ e.2.number ≤ 99999 ∧
        telex 12 e.2.name ∧ 1 ≤ e.2.channels.length ∧ e.2.channels.length ≤ 6 ∧ e.2.channels.Nodup ∧
        (∀ n ∈ e.2.channels, ∃ c, i.channels.find n = some c ∧ c.use ≠ .distress) ∧
        1 ≤ e.2.attempts ∧ e.2.attempts ≤ 8)) ∧
      (i.channels.wf = true ∧ (∀ e ∈ i.channels, 1 ≤ e.1 ∧ e.1 ≤ 48 ∧ 16000 ≤ e.2.tx ∧ e.2.tx ≤ 300000 ∧
        16000 ≤ e.2.rx ∧ e.2.rx ≤ 300000 ∧ e.2.startHour ≤ 23 ∧ e.2.endHour ≤ 23)) ∧
      (i.schedule.wf = true ∧ (∀ e ∈ i.schedule, 1 ≤ e.1 ∧ e.1 ≤ 24 ∧ 1 ≤ e.2.station ∧ e.2.station ≤ 16 ∧
        1 ≤ e.2.channel ∧ e.2.channel ≤ 48 ∧ e.2.start ≤ 1439 ∧ 1 ≤ e.2.duration ∧ e.2.duration ≤ 60)) ∧
      (i.areas.wf = true ∧ (∀ e ∈ i.areas, 1 ≤ e.1 ∧ e.1 ≤ 32 ∧ telex 12 e.2.name ∧ -540000 ≤ e.2.south ∧
        e.2.south < e.2.north ∧ e.2.north ≤ 540000 ∧ -1080000 ≤ e.2.west ∧ e.2.west ≤ 1079999 ∧
        -1080000 ≤ e.2.east ∧ e.2.east ≤ 1079999 ∧ e.2.west ≠ e.2.east)) ∧
      (i.species.wf = true ∧ (∀ e ∈ i.species, 1 ≤ e.1 ∧ e.1 ≤ 32 ∧ code e.2.code ∧ e.2.quota ≤ 99999999)) ∧
      ((∀ f ∈ i.factors, code f.code ∧ 1000 ≤ f.factor ∧ f.factor ≤ 9999) ∧ i.factors.length ≤ 96) ∧
      (i.stations.map fun e => e.2.number).Nodup ∧ (i.species.map fun e => e.2.code).Nodup ∧
      (i.factors.map fun f => (f.code, f.form)).Nodup ∧
      (i.stations.filter fun e => e.2.authority).length ≤ 1 ∧
      (i.channels.filter fun e => e.2.use == .distress).length ≤ 6 ∧
      i.distressLevel ≤ 3 ∧ (∀ n, i.watchStation = some n → 10000 ≤ n ∧ n ≤ 99999) ∧
      (∀ n ∈ i.watchAreas, 1 ≤ n ∧ n ≤ 32) ∧ i.reportTime ≤ 1439) ∧
  (∀ s : State, exec .powerLoss s = .next { State.reset with
    pending := s.pending, phase := .off, distress.line := s.distress.line
    settings.image := match s.settings.writing with
      | some (.settings _) => none
      | _ => s.settings.image
    settings.tallyImage := match s.settings.writing with
      | some (.tally _) => none
      | _ => s.settings.tallyImage }) ∧
  (∀ (s : State) (a b c : BitVec 2), ∃ t, exec (.powerOn a b c) s = .next t ∧ begins t ∧
    t.startCause = .powerOn ∧ t.pending = s.pending ∧
    t.ports.p1.level = a ∧ t.ports.p2.level = b ∧ t.ports.p3.level = c ∧
    (∀ p, t.ports.get p =
      { level := (t.ports.get p).level, map := (t.ports.get p).map, hunting := true, freshHunt := true
        frameError := false, outQ := [], choices := (t.ports.get p).choices, flags := 0, overrun := false, cursor := 0 }) ∧
    t.store = { free := List.range 1024, recs := [], next := 1, lowArmed := true } ∧ t.log = { entries := [], next := 0 } ∧
    t.time.now = 0 ∧ t.time.source = .unset ∧ t.time.fix = none ∧ t.handler.serial = 0 ∧ t.bcast.register = [] ∧
    t.catch_.reportTaken = none ∧ t.catch_.overdue = [] ∧ t.catch_.lastConfirmed = none ∧
    t.distress =
      { state := .quiet, nature := .undesignated, persons := 0, serial := 0, started := none, rotPos := 0
        nextCycle := none, ackStation := none, lamp := false, line := s.distress.line, holdTimer := none, slot := none
        granted := false, rotating := false, awaitTune := false, onAir := false, sent := 0, logEntry := none
        releaseAfter := false, cancelAfter := false, grantAfter := false, list := [], alarm := false, highest := 0
        alarmLine := false } ∧
    t.ctl = { tag := 0, cmds := [] } ∧ t.controlRx = .searching ∧ t.navRx = .searching ∧
    t.settings.writing = none ∧ t.settings.queue = [] ∧ t.settings.lastSave = .none ∧
    t.settings.defaulted = (!t.settings.loadGood) ∧
    t.settings.image = (match s.settings.writing with
      | some (.settings _) => none
      | _ => s.settings.image) ∧
    t.settings.tallyImage = (match s.settings.writing with
      | some (.tally _) => none
      | _ => s.settings.tallyImage) ∧
    loads State.reset t t.settings.image ∧
    (∀ y, t.settings.tallyImage = some y → y.good = true →
      t.catch_.rows = y.rows ∧ t.catch_.spanStart = y.spanStart ∧ t.settings.tallyLoadGood = true ∧
      ∀ e ∈ t.catch_.species,
        let saved := y.quotas.find? fun q => q.code == e.2.cfg.code
        e.2.nearRaised = saved.any (fun q => q.nearRaised) ∧ e.2.reachedRaised = saved.any fun q => q.reachedRaised) ∧
    ((∀ y, t.settings.tallyImage = some y → y.good = false) →
      t.catch_.rows = [] ∧ t.catch_.spanStart = none ∧ t.settings.tallyLoadGood = false ∧
      ∀ e ∈ t.catch_.species, e.2.state = .none ∧ e.2.nearRaised = false ∧ e.2.reachedRaised = false)) ∧
  (∀ (s : State) (r : Req), s.Settled → s.Passes .restart r →
    (s.distress.state ≠ .quiet → exec (.restart r) s = .next (s.answered .restart r (plain .distressActive) [])) ∧
    (s.distress.state = .quiet → s.settings.saveState ≠ .idle →
      exec (.restart r) s = .next (s.answered .restart r (plain .inUse) [])) ∧
    (s.distress.state = .quiet → s.settings.saveState = .idle →
      let figures : List (Half × Option Nat) := (s.bcast.windows.filter fun w => w.state != .waiting).flatMap fun w =>
        (w.rx.bulletin.map fun b => (b.entry, some (1000 * b.errored / b.frames))).toList ++
          [(w.logEntry, if w.rx.settled = 0 then none else some (1000 * w.rx.errored / w.rx.settled))]
      let lost (e : LogEntry) : LogEntry :=
        if e.ended then e
        else { e with
          ended := true, endTime := some s.time.now, outcome := some .lost, msg := none
          errFig := (figures.find? fun f => f.1 == e.number).bind fun f => f.2 }
      let withdrawn (m : MsgRec) : Bool := m.dir == .outbound && m.withdrawPending
      let receiving (m : MsgRec) : Bool := m.state == .receiving && !(withdrawn m)
      let freed := (s.store.recs.filter fun e => withdrawn e.2) ++ s.store.recs.filter fun e => receiving e.2
      ∃ t, exec (.restart r) s = .next t ∧ begins t ∧ t.startCause = .restart ∧ t.pending = s.pending ∧
        (∀ e ∈ t.store.recs, ¬(e.2.dir = .outbound ∧ e.2.state = .sending) ∧ e.2.state ≠ .receiving) ∧
        t.store.next = s.store.next ∧
        (s.StoreSound →
          t.store.recs = (s.store.recs.filter fun e => !(withdrawn e.2) && !(receiving e.2)).map (fun e =>
            if e.2.dir = .outbound ∧ e.2.state = .sending then (e.1, { e.2 with state := .queued }) else e) ∧
          t.store.free = s.store.free ++ (freed.map fun e => e.2.pages).flatten ∧
          t.store.lowArmed = (s.store.lowArmed || decide (192 ≤ t.store.free.length)) ∧
          t.bcast.register = s.bcast.register.map (fun (e : RegEntry) =>
            if e.msg.any (fun n => freed.any fun x => x.1 == n) = true then { e with msg := none } else e) ∧
          t.catch_.overdue = s.catch_.overdue.filter (fun e => (s.store.recs.find e.1).all fun m =>
            !(withdrawn m) && !(receiving m)) ∧
          ∀ p, t.ports.get p =
            { level := (s.ports.get p).level, map := (t.ports.get p).map, hunting := true, freshHunt := true
              frameError := false, choices := (t.ports.get p).choices, flags := 0, overrun := false
              cursor := (s.ports.get p).cursor
              outQ := (s.ports.get p).outQ ++ if p = r.port then [.answer r.tag .restart (plain .ok)] else [] }) ∧
        t.log.entries = s.log.entries.map lost ∧ t.log.next = s.log.next ∧
        t.time.now = s.time.now ∧ t.time.source = s.time.source ∧ t.time.fix = s.time.fix ∧
        t.handler.serial = s.handler.serial ∧
        t.catch_.rows = s.catch_.rows ∧ t.catch_.spanStart = s.catch_.spanStart ∧
        t.catch_.reportTaken = s.catch_.reportTaken ∧ t.catch_.lastConfirmed = s.catch_.lastConfirmed ∧
        t.distress = { s.distress with
          holdTimer := none, slot := none, granted := false, rotating := false, awaitTune := false, onAir := false
          logEntry := none, releaseAfter := false, cancelAfter := false, grantAfter := false } ∧
        t.ctl = (if s.main.keyed = true then
          { tag := s.ctl.tag + 1
            cmds := s.ctl.cmds ++ [{ radio := .main, tag := s.ctl.tag, kind := .unkey, tx := 0, rx := 0 }] }
          else s.ctl) ∧
        t.controlRx = s.controlRx ∧ t.navRx = s.navRx ∧
        (∀ p, (t.ports.get p).level = (s.ports.get p).level ∧ (t.ports.get p).hunting = true ∧
          (t.ports.get p).freshHunt = true ∧ (t.ports.get p).frameError = false ∧
          (t.ports.get p).cursor = (s.ports.get p).cursor) ∧
        t.settings.image = s.settings.image ∧ t.settings.tallyImage = s.settings.tallyImage ∧
        t.settings.writing = s.settings.writing ∧ t.settings.queue = s.settings.queue ∧
        t.settings.lastSave = s.settings.lastSave ∧ t.settings.tallyLoadGood = s.settings.tallyLoadGood ∧
        t.settings.defaulted = (s.settings.defaulted || !t.settings.loadGood) ∧
        loads s t s.settings.image ∧
        ∀ e ∈ t.catch_.species,
          let before := s.catch_.species.find? fun x => x.2.cfg.code == e.2.cfg.code
          e.2.nearRaised = before.any (fun x => x.2.nearRaised) ∧
            e.2.reachedRaised = before.any fun x => x.2.reachedRaised)) ∧
  ∀ s : State, s.Settled →
    (s.phase = .running → exec .loadingEnd s = .next (s.afterEvent s)) ∧
    (s.phase = .loading →
      let losses := (if s.settings.loadGood then [] else [Notice.settingsLost .settings .loadBad]) ++
        if s.startCause = .powerOn ∧ s.settings.tallyLoadGood = false then [Notice.settingsLost .tally .loadBad] else []
      let started : State := ({ s with
        phase := .running
        raised := losses ++ [.started s.startCause ⟨s.ports.p1.level, s.ports.p2.level, s.ports.p3.level⟩
          s.settings.loadGood s.settings.tallyLoadGood] } : State).claimWatch.dueTest.watchStep
      exec .loadingEnd s = .next (s.afterEvent (if s.distress.line = true then
        { started with distress.holdTimer := some (started.time.now + 3#32) } else started)))

/-- Calls and rounds: a due station is called attempt by attempt, a CALL heard is accepted or rejected, an ACCEPT or
REJECT answers; a session opens. The model's choice (log entries 9, 10, 11, 37, 48): ACCEPT raising the hold to class
3, REJECT in AWAIT-FIRST kept as ending, hearing only on the chosen channel, and the round as the call that keeps its
ship number, and a REJECT cut when the attempt ends. -/
def Obligations.CallsAndAnswersHeard : Prop :=
  (∀ (s : State) (station ship purpose waiting reason : Nat), s.Settled → s.phase = .running → s.mainHeld = false →
    let own := s.settings.identity.number
    let heard (t : State) : Host.Outcome State Fault Refusal := .next (s.afterEvent { t with mainPath := .searching })
    let silenced := s.handler.silence.any fun (q : Silence) => q.imposer != station
    let higher := s.arb.waiting.any fun c => c.cls < 3
    let reject (t : State) (ch : Nat) (why : RejectReason) : State :=
      (t.logMoment .callIn station ch .rejected).sendBurst (.reject station own why)
    let accept (t : State) (ch : Nat) : State :=
      ({ t.logWrite .callIn station ch with
        arb.holder := some .session
        link := { t.link with
          state := .awaitFirst, round := none, watchChannel := none
          await := some { station := station, channel := ch, entry := t.log.next, wait := none, ending := false } } } : State).sendBurst
        (.accept station own)
    let closed (r : Round) (o : LogOutcome) : State := match r.entry with
      | some n => s.logComplete n o
      | none => s
    let called (r : Round) : Nat := r.ship.getD own
    let hears : Prop := s.arb.holder = some .watch ∧ s.link.watchChannel ≠ none ∧ s.link.watchChannel = s.main.tuned
    let call := exec (.callBurst .main station own purpose waiting) s
    (ship ≠ own → exec (.callBurst .main station ship purpose waiting) s = heard s) ∧
    ((s.link.state = .sending ∨ s.link.state = .receiving ∨ s.link.state = .clearing) → call = heard s) ∧
    (s.link.state = .idle → ¬hears → call = heard s) ∧
    (s.link.state = .idle → hears → ∀ ch, s.link.watchChannel = some ch →
      (s.knows station = false → call = heard (reject s ch .unknown)) ∧
      (s.knows station = true → silenced = true → call = heard (reject s ch .silence)) ∧
      (s.knows station = true → silenced = false → higher = true → call = heard (reject s ch .busy)) ∧
      (s.knows station = true → silenced = false → higher = false → call = heard (accept s ch))) ∧
    (s.link.state = .calling → ∀ r, s.link.round = some r →
      let window : Prop := r.phase = .calling ∧ r.listen ≠ none
      (¬window → call = heard s) ∧
      (window → s.knows station = false → call = heard (reject s r.channel .unknown)) ∧
      (window → s.knows station = true → silenced = true → call = heard (reject s r.channel .silence)) ∧
      (window → s.knows station = true → silenced = false → higher = true → call = heard (reject s r.channel .busy)) ∧
      (window → s.knows station = true → silenced = false → higher = false →
        call = heard (accept (closed r .superseded) r.channel))) ∧
    (s.link.state = .awaitFirst → ∀ w, s.link.await = some w → w.ending = true → call = heard s) ∧
    (s.link.state = .awaitFirst → ∀ w, s.link.await = some w → w.ending = false →
      let logged : State := s.logComplete w.entry .superseded
      let left : State := { logged with link.await := some { w with wait := none, ending := true } }
      (s.knows station = false → call = heard (reject left w.channel .unknown)) ∧
      (s.knows station = true → silenced = true → call = heard (reject left w.channel .silence)) ∧
      (s.knows station = true → silenced = false → s.arb.holder = some .session → call = heard (accept logged w.channel))) ∧
    (∀ r, s.link.round = some r → r.phase = .calling → r.listen ≠ none →
      (r.station = station → higher = false → exec (.acceptBurst .main station (called r)) s = heard
        (({ (closed r .complete).sample r.channel 1000 with arb.holder := some .session } : State).openSession station
          r.channel .sending).buildVolley) ∧
      (r.station = station → exec (.rejectBurst .main station (called r) reason) s = heard
        (((closed r .rejected).sample r.channel 1000).failRound r)) ∧
      ((r.station ≠ station ∨ ship ≠ called r) → exec (.acceptBurst .main station ship) s = heard s ∧
        exec (.rejectBurst .main station ship reason) s = heard s)) ∧
    ((s.link.round.all fun (r : Round) => r.phase != .calling || r.listen.isNone) = true →
      exec (.acceptBurst .main station ship) s = heard s ∧ exec (.rejectBurst .main station ship reason) s = heard s)) ∧
  (∀ s : State,
    let leave (t : State) : State := t.release.toIdle
    let first (number : Nat) : Option (Nat × MsgRec) := s.firstToSend number (s.floor number)
    let changed (t : State) (number : Nat) (f : Station → Station) : State :=
      { t with dir.stations := t.dir.stations.map fun (e : Nat × Station) =>
        if e.2.cfg.number = number then (e.1, f e.2) else e }
    (¬(s.phase = .running ∧ s.link.state = .idle) → s.dueTest = s) ∧
    (s.phase = .running → s.link.state = .idle →
      (s.dueChoice = none → s.dueTest = s) ∧ ∀ number, s.dueChoice = some number → s.dueTest = s.startRound number) ∧
    (∀ number st, s.stationOf number = some st →
      s.startRound number = (({ s with link := { s.link with
        state := .calling, watchChannel := none
        round := some { station := number, left := st.cfg.attempts, phase := .claiming, channel := 0, entry := none
                        calls := 0, listen := none, engaged := false, ship := none } } } : State).place .call).giveUp
          .watch) ∧
    s.releaseToIdle = leave s ∧
    (∀ r : Round,
      let failed (t : State) : State := leave (t.backOff r.station)
      let tuning (t : State) (ch : Nat) : State := ({ t with link.round := some { r with
        phase := .tuning, channel := ch, left := r.left - 1, entry := none, calls := 0, listen := none } } : State).tuneMain
          ch .call
      let ship := r.ship.getD s.settings.identity.number
      let purpose : Purpose :=
        if s.handler.last.any (fun (a : LastAnswer) => a.station == r.station && a.owed) then .pollAnswer
        else if (first r.station).any (fun m => m.2.cls == .report) then .report else .traffic
      let waiting := (s.store.recs.filter fun (e : Nat × MsgRec) =>
        e.2.dir == .outbound && e.2.state == .queued && !e.2.withdrawPending && e.2.peer == r.station &&
          (s.floor r.station).any fun (p : Prec) => decide (e.2.prec.code ≤ p.code)).length
      let calling (t : State) (entry : Half) : State := ({ t with link.round := some { r with
        phase := .calling, entry := some entry, calls := r.calls + 1, listen := none, engaged := true
        ship := some ship } } : State).sendBurst (.call r.station ship purpose (min waiting 255))
      s.failRound r = failed s ∧
      (∀ n, r.entry = some n → s.sendCall r = calling s n) ∧
      (r.entry = none → s.sendCall r = calling (s.logWrite .callOut r.station r.channel) s.log.next) ∧
      (r.left = 0 → s.nextAttempt r = failed s) ∧
      (r.left ≠ 0 →
        (s.stationOf r.station = none → s.nextAttempt r = leave s) ∧
        ∀ st, s.stationOf r.station = some st →
          (st.noChannel = true ∨ first r.station = none → s.nextAttempt r = leave s) ∧
          (st.noChannel = false → first r.station ≠ none →
            (s.callChannel st = none → s.nextAttempt r = failed s) ∧
            ∀ ch, s.callChannel st = some ch → s.nextAttempt r = tuning s ch)) ∧
      (s.link.round = some r →
        (s.stationOf r.station = none → s.callGranted = leave s) ∧
        (∀ st, s.stationOf r.station = some st →
          let opened := changed s r.station fun (x : Station) => { x with nextCall := none, nextCallArmed := false }
          let nominal := ((s.callChannel st).or st.cfg.channels.head?).getD 0
          (∀ ch, s.callChannel st = some ch → s.callGranted = tuning opened ch) ∧
          (s.callChannel st = none → s.callGranted = leave (changed
            (opened.logMoment .callOut r.station nominal .noChannel) r.station fun (x : Station) =>
              { x with noChannel := true })) ∧
          s.callRefused = ((s.logMoment .callOut r.station nominal .radioFault).backOff r.station).toIdle) ∧
        (r.phase ≠ .tuning → ∀ ready out, s.callTuned ready out = s) ∧
        (r.phase = .tuning →
          let faulted := s.logMoment .callOut r.station r.channel .radioFault
          (∀ out, s.callTuned true out = s.sendCall r) ∧ s.callTuned false true = failed faulted ∧
          s.callTuned false false = faulted.nextAttempt r) ∧
        s.callSent = { s with link.round := some (if r.phase = .calling then { r with listen := some (s.time.now + 2#32) }
          else r) })) ∧
    (s.link.await = none → s.acceptSent = s ∧ s.rejectSent = s) ∧
    (∀ w, s.link.await = some w →
      (w.ending = true → s.acceptSent = s ∧ s.rejectSent = leave s) ∧
      (w.ending = false → s.rejectSent = s ∧
        s.acceptSent = { s with link.await := some { w with wait := some (s.time.now + 10#32) } })) ∧
    ∀ peer channel as_, s.openSession peer channel as_ = { s.logWrite .session peer channel with
      link := { s.link with
        state := as_, round := none, await := none
        session := some {
          peer, channel, entry := s.log.next, outNext := 0, inNext := 0, counter := 0, kept := none, inFlight := []
          outMsg := none, inMsg := none, payLen := none, missTallies := 0, missVolleys := 0, overSent := false
          turnYield := false, heldTurn := false, lastTally := none, lastMsg := none, tallyWin := none, receiveWin := none
          clearWait := none, aborts := [], abortsSent := [], later := [], answerRest := [], answerCopy := none
          after := .listen, delivered := 0, stored := 0 } } })

/-- A VOLLEY opens the session in waiting or is taken in its window; a TALLY in the tally window settles the frames in
flight; a CLEAR ends the session. The model's choice (log entries 14, 55): listening again after a repeated tally, and
a VOLLEY or a TALLY that the session state does not expect is discarded. -/
def Obligations.VolleysTalliesAndClearsHeard : Prop :=
  (∀ (s : State), s.Settled → s.phase = .running → s.mainHeld = false →
    let heard (t : State) : Host.Outcome State Fault Refusal := .next (s.afterEvent { t with mainPath := .searching })
    (∀ (h : RxHeader) (frames : List RxFrame),
      (s.link.state = .awaitFirst → ∀ w, s.link.await = some w → w.ending = false →
        exec (.volleyBurst .main h frames) s = heard
          (((s.logComplete w.entry .complete).openSession w.station w.channel .receiving).takeVolley h frames)) ∧
      (∀ e, s.link.session = some e →
        (s.link.state = .receiving → e.receiveWin ≠ none →
          exec (.volleyBurst .main h frames) s = heard (s.takeVolley h frames)) ∧
        (s.link.state = .clearing → e.clearWait ≠ none → exec (.volleyBurst .main h frames) s = heard
          (({ s with link.state := .receiving } : State).takeVolley h frames)) ∧
        (((s.link.state = .receiving ∧ e.receiveWin = none) ∨ (s.link.state = .clearing ∧ e.clearWait = none) ∨
            s.link.state = .sending) → exec (.volleyBurst .main h frames) s = heard s)) ∧
      ((s.link.state = .idle ∨ s.link.state = .calling) → exec (.volleyBurst .main h frames) s = heard s)) ∧
    (∀ tally : RxTally,
      (∀ e, s.link.session = some e →
        let fits : Prop := s.link.state = .sending ∧ e.tallyWin ≠ none ∧
          (tally.next = e.outNext ∨ ∃ f ∈ e.inFlight, f.frame.seq = tally.next)
        (fits → exec (.tallyBurst .main tally) s = heard (s.tallyTaken e tally)) ∧
        (¬fits → exec (.tallyBurst .main tally) s = heard s)) ∧
      (s.link.session = none → exec (.tallyBurst .main tally) s = heard s)) ∧
    (∀ reason : Nat,
      (s.link.session = none → exec (.clearBurst .main reason) s = heard s) ∧
      (s.link.session ≠ none → exec (.clearBurst .main reason) s = heard
        (s.endSession (if ClearReason.ofCode reason = .error then .lost else .complete) true)))) ∧
  ∀ (s : State) (e : Session) (h : RxHeader) (frames : List RxFrame), s.link.session = some e →
    (h.good = false →
      let missed : Session :=
        { e with receiveWin := none, clearWait := none, missVolleys := e.missVolleys + 1 }
      let t : State := { s.sample e.channel 0 with link.session := some missed }
      s.takeVolley h frames =
        if 3 ≤ e.missVolleys + 1 then t.endSession .lost true
        else t.sendTally (e.lastTally.getD { marks := [], next := e.inNext, turnGrant := false, turnRequest := false
                                             refused := false, answerWaiting := false, storeFull := false }) .listen) ∧
    (h.good = true → e.kept = some h.counter →
      let good := ((frames.take h.count).filter fun f => f.check && (FrameKind.ofCode f.kind).isSome &&
        f.used ≤ (payloadBytes h.code).getD 0).length
      let kept : Session := { e with receiveWin := none, clearWait := none, missVolleys := 0 }
      let t : State := { s.sample e.channel (1000 * good / h.count) with link.session := some kept }
      ∀ last, e.lastTally = some last → s.takeVolley h frames = t.sendTally last .listen)

/-- The paths search and read; the watch path discards linked traffic; a collective frame reaches the reader of its
reception and a collective directive the check. The model's choice (log entry 52): a collective directive taken before
its frame reaches the reader, and both before a revocation it brings about. -/
def Obligations.PathsSearchAndCollectives : Prop :=
  ∀ (s : State) (c : RxCollective), s.Settled → s.phase ≠ .off →
    let bad : RxFrame := { check := false, seq := 0, kind := 0, used := 0, payload := [] }
    let noHeader : RxHeader := { check := false, counter := 0, count := 0, code := 0, isOver := false }
    (∀ (station ship other more kind : Nat) (h : RxHeader) (frames : List RxFrame) (t : RxTally) (cut : CutBurst)
        (path : Path), (match path with
          | .main => s.mainHeld
          | .watch => s.watchHeld) = true →
      exec (.syncWordMatch path) s = .next s ∧ exec (.badBurst path) s = .next s ∧
      exec (.undefinedBurstKind path) s = .next s ∧
      ∀ cmd ∈ [Instr.callBurst path station ship other more, .acceptBurst path station ship,
        .rejectBurst path station ship other, .volleyBurst path h frames, .tallyBurst path t, .clearBurst path other,
        .collectiveBurst path c kind, .collectiveDirectiveBurst path c, .carrierDrop path cut],
        exec cmd s = .next (s.afterEvent s)) ∧
    (s.watchHeld = false →
      exec (.syncWordMatch .watch) s = .next { s with watchPath := .reading } ∧
      exec (.badBurst .watch) s = .next { s with watchPath := .searching } ∧
      exec (.undefinedBurstKind .watch) s = .next { s with watchPath := .searching } ∧
      (∀ (station ship other more kind : Nat) (h : RxHeader) (frames : List RxFrame) (t : RxTally) (cut : CutBurst),
        ∀ cmd ∈ [Instr.callBurst .watch station ship other more, .acceptBurst .watch station ship,
          .rejectBurst .watch station ship other, .volleyBurst .watch h frames, .tallyBurst .watch t,
          .clearBurst .watch other, .collectiveBurst .watch c kind, .carrierDrop .watch cut],
          exec cmd s = .next (s.afterEvent { s with watchPath := .searching })) ∧
      exec (.collectiveDirectiveBurst .watch c) s =
        .next (s.afterEvent { s.checkDirective .watch c with watchPath := .searching })) ∧
    (s.mainHeld = false →
      let heard (t : State) : Host.Outcome State Fault Refusal := .next (s.afterEvent { t with mainPath := .searching })
      exec (.syncWordMatch .main) s = .next { s with mainPath := .reading } ∧
      exec (.badBurst .main) s = .next { s with mainPath := .searching } ∧
      exec (.undefinedBurstKind .main) s = .next { s with mainPath := .searching } ∧
      (∀ kind, exec (.collectiveBurst .main c kind) s = heard
        (match s.bcast.windows.find? fun w => w.state == .receiving with
          | some w => if c.station = w.station then s.readFrame c kind else s
          | none => s)) ∧
      exec (.collectiveDirectiveBurst .main c) s = heard ((s.checkDirective .main c).readFrame c 3) ∧
      (∀ h frames, exec (.carrierDrop .main (.volley h frames)) s =
        heard (s.hearVolley h (frames ++ List.replicate (h.count - frames.length) bad))) ∧
      exec (.carrierDrop .main .volleyHeader) s = heard (s.hearVolley noHeader []) ∧
      exec (.carrierDrop .main .other) s = heard s)

/-- An armed timer of the link engine, of silence or of a window expires at or after its target and takes its course;
a disarmed one does nothing. The model's choice (log entries 1, 17, 24, 40, 48, 58): that an expiry moves ship time to
its target or occurrence, what a missing tally does with a frame sent six times, and no station and no end time in the
notice of an ended silence, the day before day 0, and a REJECT cut at the last listen window, and the record keeps the
station number read at the taking. -/
def Obligations.LinkAndBroadcastTimersExpire : Prop :=
  ∀ s : State, s.Settled → s.phase ≠ .off →
    let at_ (target : Time) : State := { s with time.now := if passed s.time.now target then s.time.now else target }
    (∀ (entry : Nat) (st : Station), s.dir.stations.find entry = some st →
      (∀ target, st.nextCallArmed = true → st.nextCall = some target →
        exec (.nextCallTimeExpiry entry) s = .next (s.afterEvent { at_ target with
          dir.stations := s.dir.stations.upd entry fun (x : Station) => { x with nextCallArmed := false }
          msgs := [.dueTest] })) ∧
      ((st.nextCallArmed = false ∨ st.nextCall = none) →
        exec (.nextCallTimeExpiry entry) s = .next (s.afterEvent s))) ∧
    (∀ entry, s.dir.stations.find entry = none → exec (.nextCallTimeExpiry entry) s = .next (s.afterEvent s)) ∧
    (∀ (r : Round) (target : Time), s.link.round = some r → r.listen = some target →
      let t := at_ target
      let closed : State := match r.entry with
        | some n => t.logComplete n .unanswered
        | none => t
      exec .listenWindowExpiry s = .next (s.afterEvent (if r.calls < 4 then t.sendCall r
        else ((closed.sample r.channel 0).updChannel r.channel fun (c : Channel) =>
          { c with lastFail := some t.time.now }).nextAttempt r))) ∧
    (∀ (w : Await) (target : Time), s.link.await = some w → w.wait = some target →
      exec .awaitFirstWaitExpiry s = .next (s.afterEvent ((at_ target).logComplete w.entry .lost).releaseToIdle)) ∧
    (∀ (e : Session) (target : Time), s.link.session = some e →
      (e.tallyWin = some target → exec .tallyWindowExpiry s = .next (s.afterEvent (at_ target).tallyMissed)) ∧
      (e.receiveWin = some target →
        exec .receiveWindowExpiry s = .next (s.afterEvent ((at_ target).volleyMissed false))) ∧
      (e.clearWait = some target → exec .clearingWaitExpiry s = .next (s.afterEvent (({ at_ target with
        link := { s.link with
          state := .clearing, session := some { e with tallyWin := none, receiveWin := none, clearWait := none } } } : State).sendBurst
          (.clear .done))))) ∧
    (s.link.round.bind (·.listen) = none → exec .listenWindowExpiry s = .next (s.afterEvent s)) ∧
    (s.link.await.bind (·.wait) = none → exec .awaitFirstWaitExpiry s = .next (s.afterEvent s)) ∧
    (s.link.session.bind (·.tallyWin) = none → exec .tallyWindowExpiry s = .next (s.afterEvent s)) ∧
    (s.link.session.bind (·.receiveWin) = none → exec .receiveWindowExpiry s = .next (s.afterEvent s)) ∧
    (s.link.session.bind (·.clearWait) = none → exec .clearingWaitExpiry s = .next (s.afterEvent s)) ∧
    (∀ q, s.handler.silence = some q → exec .silenceEnd s = .next (s.afterEvent { at_ q.endTime with
      handler.silence := none, raised := [.silence false none none .expired], msgs := [.dueTest] })) ∧
    (s.handler.silence = none → exec .silenceEnd s = .next (s.afterEvent s)) ∧
    (∀ (entry : Nat) (e : Schedule), s.phase = .running → s.bcast.schedule.find entry = some e →
      let t := s.waitCalendar e.cfg.start e.lastTaken
      let day := latestDay t.time.now e.cfg.start
      exec (.scheduleEntryDue entry) s = .next (s.afterEvent
        (if calendarDue t.time.source t.time.now e.cfg.start e.lastTaken = true then
          ({ t with bcast.schedule := s.bcast.schedule.put entry { e with lastTaken := some day } } : State).takeOccurrence
            entry e.cfg day
        else t))) ∧
    (∀ entry, s.bcast.schedule.find entry = none → exec (.scheduleEntryDue entry) s = .next (s.afterEvent s)) ∧
    (∀ entry, let found := s.bcast.windows.find? fun w => w.entry == entry
      (found = none → exec (.windowEnd entry) s = .next (s.afterEvent s)) ∧
      (∀ w, found = some w →
        let t := at_ w.endTime
        (w.state = .waiting → exec (.windowEnd entry) s = .next (s.afterEvent
          ((((t.withdrawClaim w.claim).logMoment .bulletin w.station w.channel .missed).raise
            (.bulletinMissed w.entry w.station w.opening .missed)).removeWindow w.entry))) ∧
        (w.state ≠ .waiting → exec (.windowEnd entry) s = .next (s.afterEvent
          (t.cutReception w .lost .complete).release))))

/-- A volley re-sends frames in flight and adds new ones up to four from answers, TEXT-ABORTs and records; its end
arms the tally window. The model's choice (log entries 8, 33, 34): OVER-sent stays set for the turn, TEXT-ABORT behind
ANSWER frames, and a withdrawn record left out of the sending order. -/
def Obligations.VolleysAreBuilt : Prop :=
  ∀ (s : State) (e : Session),
    let add (kind : FrameKind) (payload : List Byte) (ends : Option Nat) (answers : Option Half) (x : Session) : Session :=
      { x with
        inFlight := x.inFlight ++ [{ frame := { seq := x.outNext, kind, payload }, sends := 1, ends, answers }]
        outNext := x.outNext + 1 }
    let fresh : Option LastAnswer := s.handler.last.filter fun a =>
      decide (a.station = e.peer ∧ a.owed = true ∧ e.answerCopy ≠ some a.serial)
    let floor := if e.heldTurn = true ∧ s.floor e.peer = some .routine then some .urgency else s.floor e.peer
    let pick : Option (Nat × Nat) := match e.outMsg with
      | some m => some m
      | none => if e.turnYield = true then none
        else (State.firstToSend { s with store.recs := s.store.recs.filter fun m => decide (m.1 ∉ e.later) } e.peer floor).map
          fun m => (m.1, 0)
    let remain : Prop := e.answerRest ≠ [] ∨ fresh ≠ none ∨ e.aborts ≠ [] ∨ pick ≠ none
    (s.framesRemain e = true ↔ remain) ∧
    (∀ (k payLen : Nat),
      s.addNewFrames 0 e payLen = (s, e) ∧
      (e.inFlight.length < 4 → remain → s.addNewFrames (k + 1) e payLen =
        (s.addNewFrame e payLen).1.addNewFrames k (s.addNewFrame e payLen).2 payLen) ∧
      (¬(e.inFlight.length < 4 ∧ remain) → s.addNewFrames (k + 1) e payLen = (s, e))) ∧
    (∀ payLen : Nat,
      let answer (l : List Byte) (copy : Option Half) : Session :=
        { add .answer (l.take payLen) none (if l.drop payLen = [] then copy else none)
            { e with answerRest := l, answerCopy := copy } with
          answerRest := l.drop payLen }
      (e.answerRest ≠ [] → s.addNewFrame e payLen = (s, answer e.answerRest e.answerCopy)) ∧
      (e.answerRest = [] →
        (∀ a, fresh = some a → s.addNewFrame e payLen = (s, answer a.record.bytes (some a.serial))) ∧
        (fresh = none →
          (∀ a rest, e.aborts = a :: rest → s.addNewFrame e payLen =
            (s, { add .textAbort (bytesOfNat 2 a.1) none none e with
              aborts := rest, abortsSent := e.abortsSent ++ [a] })) ∧
          (e.aborts = [] →
            (pick = none → s.addNewFrame e payLen = (s, e)) ∧
            ∀ n offset m, pick = some (n, offset) → s.record n = some m →
              let head := if offset = 0 then
                  bytesOfNat 2 n ++ bytesOfNat 1 m.prec.code ++ bytesOfNat 1 m.cls.code ++ bytesOfNat 2 m.textLen
                else []
              let room := payLen - head.length
              let last := m.text.length ≤ offset + room
              s.addNewFrame e payLen =
                (if offset = 0 then
                  { s with store.recs := s.store.recs.upd n fun (x : MsgRec) => { x with state := .sending } }
                else s,
                { add (if last then .textEnd else .text) (head ++ (m.text.drop offset).take room)
                    (if last then some n else none) none e with
                  outMsg := if last then none else some (n, offset + room) }))))) ∧
    (s.link.session = some e →
      let q := (s.channel e.channel).elim 0 fun (c : Channel) => c.q
      let chosen := if 700 ≤ q then 32 else if 400 ≤ q then 16 else 8
      let payLen := if e.inFlight = [] then chosen else e.payLen.getD chosen
      let run := s.addNewFrames 4
        { e with
          payLen := some payLen, inFlight := e.inFlight.map fun (f : Flight) => { f with sends := f.sends + 1 } } payLen
      let full := if run.2.inFlight = [] then add .empty [] none none run.2 else run.2
      let isOver := !run.1.framesRemain full
      s.buildVolley = ({ run.1 with
        link.state := .sending
        link.session := some { full with
          counter := full.counter + 1, overSent := full.overSent || isOver, tallyWin := none } } : State).sendBurst
        (.volley full.counter payLen isOver (full.inFlight.head?.any fun f => f.frame.kind == .answer)
          (full.inFlight.map fun f => f.frame)) ∧
      s.takeTurn = ({ s with link.session := some { e with
        turnYield := false, overSent := false, heldTurn := false, receiveWin := none } } : State).buildVolley ∧
      s.volleySent =
        { ((e.abortsSent.filter fun a => a.2 && (s.record a.1).any fun m => m.withdrawPending).map fun a => a.1).foldl
            State.freeRecord s with
          link.session := some { e with abortsSent := [], tallyWin := some (s.time.now + 3#32) } })

/-- A good volley gives its sample and is taken frame by frame: the next frame is handed on by its type, old ones are
marked, later ones not; a tally answers it. The model's choice (log entries 18, 50, 64): a first frame too short
for the header is an invalid header, a record kept for a later session is traffic held for the peer, and TURN-GRANT is set
also when a yield is pending. -/
def Obligations.VolleysAreTaken : Prop :=
  (∀ (s : State) (e : Session) (payLen : Nat) (k : Taking) (f : RxFrame), s.link.session = some e →
    let took : State := { s with link.session := some { e with inNext := e.inNext + 1 } }
    let marked (b : Bool) : Taking := { k with marks := k.marks ++ [b] }
    let ahead := (f.seq - e.inNext).toNat
    let payload := f.payload.take f.used
    let good : Prop := f.check = true ∧ FrameKind.ofCode f.kind ≠ none ∧ f.used ≤ payLen
    let taking := State.takeFrame payLen (s, k) f
    let number := natOfBytes (payload.take 2)
    let length := natOfBytes ((payload.drop 4).take 2)
    let valid (prec : Prec) : Prop := 6 ≤ payload.length ∧ number ≠ 0 ∧ 1 ≤ length ∧ length ≤ 3072 ∧
      Prec.ofCode (natOfBytes ((payload.drop 2).take 1)) = some prec ∧
      Cls.ofCode (natOfBytes ((payload.drop 3).take 1)) = some .traffic
    (k.invalid = true → taking = (s, k)) ∧
    (k.invalid = false →
      (¬good → taking = (s, marked false)) ∧
      (good → 1 ≤ ahead → ahead ≤ 7 → taking = (s, marked false)) ∧
      (good → 8 ≤ ahead → taking = (s, marked true)) ∧
      (good → ahead = 0 → ∀ kind, FrameKind.ofCode f.kind = some kind →
        ((kind = .answer ∨ kind = .empty) → taking = (took, marked true)) ∧
        (kind = .textAbort → e.inMsg = none → taking = (took, marked true)) ∧
        (kind = .textAbort → ∀ n len, e.inMsg = some (n, len) → taking =
          ({ took.freeRecord n with link.session := some { e with inNext := e.inNext + 1, inMsg := none } }, marked true)) ∧
        (kind = .directive →
          let order : Order :=
            { code := natOfBytes (payload.take 1), args := payload.drop 1, used := payload.length
              addressing := .individual, sender := e.peer, channel := e.channel }
          taking = ((took.takeDirective order).1,
            { marked true with refused := k.refused || decide ((took.takeDirective order).2 = .refused) })) ∧
        ((kind = .text ∨ kind = .textEnd) →
          (∀ n len, e.inMsg = some (n, len) →
            taking = (took.takeText n payload (decide (kind = .textEnd)), marked true)) ∧
          (e.inMsg = none →
            ((∀ prec, ¬valid prec) → taking = (s, { k with invalid := true })) ∧
            ∀ prec, valid prec →
              let record : MsgRec :=
                { cls := .traffic, dir := .inbound, prec, state := .receiving, orig := .air, peer := e.peer
                  peerRef := some number, created := s.time.now, textLen := length, text := [], pages := [], attempts := 0
                  readMask := ⟨false, false, false⟩, keep := false, withdrawPending := false, delivered := none
                  identity := none, span := none, errFig := none }
              let right : Permission := if prec = .distress ∨ prec = .urgency then .reserve else .ordinary
              (∀ t, s.allocText right record = (none, t) → taking = (t, { marked false with full := true })) ∧
              ∀ n t, s.allocText right record = (some n, t) → taking =
                (State.takeText { t with link.session := t.link.session.map fun (x : Session) =>
                  { x with inNext := x.inNext + 1 } } n (payload.drop 6) (decide (kind = .textEnd)), marked true)))))) ∧
  (∀ (s : State) (e : Session) (n : Nat) (m : MsgRec) (l : List Byte), s.link.session = some e → s.record n = some m →
    let text (x : MsgRec) : List Byte := (x.text ++ l.map airByte).take x.textLen
    let written : State := { s with
      store.recs := s.store.recs.upd n fun (x : MsgRec) => { x with text := text x } }
    s.takeText n l false = { written with link.session := some { e with inMsg := some (n, (text m).length) } } ∧
    ((text m).length = m.textLen → s.takeText n l true = { s with
      store.recs := s.store.recs.upd n fun (x : MsgRec) => { x with text := text x, state := .stored }
      raised := s.raised ++ [.newMessage n]
      link.session := some { e with inMsg := none, lastMsg := some n, stored := e.stored + 1 } }) ∧
    ((text m).length ≠ m.textLen → s.takeText n l true =
      ({ written with link.session := some { e with inMsg := none } } : State).freeRecord n)) ∧
  (∀ (s : State) (e : Session) (h : RxHeader) (frames : List RxFrame), s.link.session = some e → h.good = true →
    e.kept ≠ some h.counter →
    let payLen := if h.code = 0 then 8 else if h.code = 1 then 16 else 32
    let taken := frames.take h.count
    let good := (taken.filter fun f => f.check && (FrameKind.ofCode f.kind).isSome && decide (f.used ≤ payLen)).length
    let run := taken.foldl (State.takeFrame payLen) ({ s.sample e.channel (1000 * good / h.count) with
      link.session := some { e with
        receiveWin := none, clearWait := none, missVolleys := 0, kept := some h.counter } },
      { marks := [], refused := false, full := false, invalid := false })
    (run.2.invalid = true → s.takeVolley h frames = run.1.sendClear .error) ∧
    (run.2.invalid = false → s.takeVolley h frames = run.1.answerVolley h.isOver run.2)) ∧
  ∀ (s : State) (e : Session) (isOver : Bool) (k : Taking), s.link.session = some e →
    let ends := isOver && k.marks.all id
    let waiting := s.answerToBuild e
    let traffic := waiting || (s.firstFor e.peer).isSome
    let tally : TxTally :=
      { marks := k.marks, next := e.inNext, turnGrant := ends && traffic
        turnRequest := (s.firstFor e.peer).any fun m => decide (m.2.prec = .distress ∨ m.2.prec = .urgency)
        refused := k.refused, answerWaiting := waiting, storeFull := k.full }
    let after : AfterTally := if ends then (if traffic then .takeTurn else .clearDone) else .listen
    s.answerVolley isOver k =
      ({ s with link.session := some { e with lastTally := some tally, after := after } } : State).sendBurst (.tally tally)

/-- A tally in its window settles the frames in flight by its marks, gives the sample, and ends the session, yields,
ends the turn or lets the next volley go. The model's choice (log entries 12, 17): a MUST yield gives the CLEAR its
reason before silence, and a missing tally with a frame sent six times makes the session LOST. -/
def Obligations.TalliesSettleFrames : Prop :=
  (∀ (s : State) (e : Session) (t : RxTally), s.link.session = some e →
    let pairs := e.inFlight.zipIdx
    let acked := (pairs.filter fun p => t.marks.getLsbD p.2).map fun p => p.1
    let left := (pairs.filter fun p => !t.marks.getLsbD p.2).map fun p => p.1
    let noted : State := { s.sample e.channel (1000 * acked.length / e.inFlight.length) with
      link.session := some { e with
        tallyWin := none, missTallies := 0, inFlight := left, turnYield := e.turnYield || t.turnRequest } }
    s.tallyTaken e t = (acked.foldl State.acknowledge noted).afterExchange t.turnGrant) ∧
  (∀ (s : State) (e : Session) (f : Flight), s.link.session = some e →
    let settled (u : State) : State := match f.answers with
      | none => u
      | some serial => { u with handler.last := u.handler.last.map fun (a : LastAnswer) =>
          if a.serial = serial then { a with owed := false } else a }
    let delivered (n : Nat) (m : MsgRec) : State :=
      { s with
        store.recs := s.store.recs.upd n fun (x : MsgRec) =>
          { x with state := .delivered, delivered := some s.time.now, withdrawPending := false }
        catch_.overdue := if m.cls = .report then s.catch_.overdue.put n (s.time.now + 21600#32) else s.catch_.overdue
        raised := s.raised ++ [.delivered n]
        link.session := some { e with lastMsg := some n, delivered := e.delivered + 1 } }
    (f.ends = none → s.acknowledge f = settled s) ∧
    ∀ n, f.ends = some n →
      (∀ m, s.record n = some m → m.state = .sending → s.acknowledge f = settled (delivered n m)) ∧
      ((∀ m, s.record n = some m → m.state ≠ .sending) → s.acknowledge f = settled s)) ∧
  (∀ (s : State) (e : Session), s.link.session = some e →
    let worn : Prop := ∃ f ∈ e.inFlight, 6 ≤ f.sends
    let yields : Option ClearReason := if s.arb.yieldAsked = true then some .hold
      else if s.handler.silence.any (fun q => decide (q.imposer ≠ e.peer)) = true then some .silence else none
    let clear (reason : ClearReason) : State := ({ s with
      link.state := .clearing
      link.session := some { e with tallyWin := none, receiveWin := none, clearWait := none } } : State).sendBurst
        (.clear reason)
    s.yieldReason e = yields ∧ (∀ reason, s.sendClear reason = clear reason) ∧
    (∀ turnGrant : Bool,
      (worn → s.afterExchange turnGrant = s.endSession .lost true) ∧
      (¬worn → ∀ reason, yields = some reason → s.afterExchange turnGrant = clear reason) ∧
      (¬worn → yields = none → (e.overSent = false ∨ e.inFlight ≠ []) → s.afterExchange turnGrant = s.buildVolley) ∧
      (¬worn → yields = none → e.overSent = true → e.inFlight = [] → s.afterExchange turnGrant =
        if turnGrant = true then
          { s with
            link.state := .receiving
            link.session := some { e with
              overSent := false, missVolleys := 0, receiveWin := some (s.time.now + 12#32) } }
        else { s with
          link.state := .clearing, link.session := some { e with clearWait := some (s.time.now + 3#32) } })) ∧
    (let missed : State := { s.sample e.channel 0 with
      link.session := some { e with tallyWin := none, missTallies := e.missTallies + 1 } }
    ((2 ≤ e.missTallies ∨ worn) → s.tallyMissed = missed.endSession .lost true) ∧
    (e.missTallies < 2 → ¬worn →
      (∀ reason, yields = some reason → s.tallyMissed = missed.sendClear reason) ∧
      (yields = none → s.tallyMissed = missed.buildVolley))))

/-- A session ends with its partial message freed, SENDING records settled, its log entry, k and SESSION notice; a
yield or revocation ends it in its own way. The model's choice (log entries 10, 12, 14, 15, 45, 47, 71): the reason of two
pending yields, a boundary at the end of a tally sent again, listening after a repeated tally, the records that a hold returned with their withdrawal pending, the
ascending order of the records dealt with, and CLEAR DONE before a pending yield, and AWAIT-FIRST left alone by a
yield while a REJECT ends it. -/
def Obligations.SessionsEndAndYield : Prop :=
  (∀ (s : State) (e : Session) (outcome : LogOutcome) (counted : Bool), s.link.session = some e →
    let freed : State := match e.inMsg with
      | some m => s.freeRecord m.1
      | none => s
    let held := (freed.store.recs.filter fun x =>
      decide (x.2.dir = .outbound ∧ (x.2.state = .sending ∨ x.2.withdrawPending = true))).map fun x => x.1
    let settled := held.foldl (State.settleSending counted) freed
    let logged := settled.logComplete e.entry outcome e.lastMsg
    let paced : State := if outcome = .complete then
        { logged with dir.stations := logged.dir.stations.map fun (x : Nat × Station) =>
            if x.2.cfg.number = e.peer then (x.1, { x.2 with k := 0 }) else x }
      else logged
    let closed : State := { paced with raised := paced.raised ++ [.session e.peer outcome e.delivered e.stored] }
    s.closeSession e outcome counted = closed ∧ s.endSession outcome counted = closed.release.toIdle) ∧
  (∀ (s : State) (n : Nat) (m : MsgRec) (counted : Bool), s.record n = some m →
    let changed (f : MsgRec → MsgRec) : State := { s with store.recs := s.store.recs.upd n f }
    (m.withdrawPending = true → s.settleSending counted n = s.freeRecord n) ∧
    (m.withdrawPending = false → counted = false →
      s.settleSending counted n = changed fun (x : MsgRec) => { x with state := .queued }) ∧
    (m.withdrawPending = false → counted = true →
      (m.attempts < 4 → s.settleSending counted n =
        changed fun (x : MsgRec) => { x with attempts := x.attempts + 1, state := .queued }) ∧
      (4 ≤ m.attempts → s.settleSending counted n =
        { changed fun (x : MsgRec) => { x with attempts := x.attempts + 1, state := .failed } with
          raised := s.raised ++ [.failed n] }))) ∧
  (∀ s : State, s.toIdle = (({ s with link := { s.link with
      state := .idle, round := none, await := none, session := none, watchChannel := none } } : State).claimWatch).dueTest) ∧
  (∀ (s : State) (e : Session), s.link.session = some e →
    s.clearSent .done = s.endSession .complete true ∧ s.clearSent .silence = s.endSession .complete true ∧
    s.clearSent .hold = s.endSession .preEmpted false ∧ s.clearSent .error = s.endSession .lost true ∧
    (e.after = .clearDone → s.tallySent = s.sendClear .done) ∧
    (e.after ≠ .clearDone →
      (∀ reason, s.yieldReason e = some reason → s.tallySent = s.sendClear reason) ∧
      (s.yieldReason e = none → e.after = .takeTurn → s.tallySent = s.takeTurn) ∧
      (s.yieldReason e = none → e.after = .listen → s.tallySent =
        { s with link.session := some { e with receiveWin := some (s.time.now + 12#32) } })) ∧
    (s.arb.yieldAsked = true → s.link.state = .clearing →
      (e.clearWait ≠ none → s.onYieldAsked = s.sendClear .done) ∧ (e.clearWait = none → s.onYieldAsked = s)) ∧
    (s.arb.yieldAsked = true → (s.link.state = .sending ∨ s.link.state = .receiving) → s.onYieldAsked = s) ∧
    (let missed : State := { s.sample e.channel 0 with
      link.session := some { e with receiveWin := none, clearWait := none, missVolleys := e.missVolleys + 1 } }
    (2 ≤ e.missVolleys → s.volleyMissed false = missed.endSession .lost true) ∧
    (e.missVolleys < 2 →
      (∀ reason, s.yieldReason e = some reason → s.volleyMissed false = missed.sendClear reason) ∧
      (s.yieldReason e = none → s.volleyMissed false =
        (let last := e.lastTally.getD { marks := [], next := e.inNext, turnGrant := false, turnRequest := false
                                        refused := false, answerWaiting := false, storeFull := false }
        ({ missed with link.session := missed.link.session.map fun (x : Session) =>
          { x with lastTally := some last, after := .listen } } : State).sendBurst (.tally last)))))) ∧
  ∀ (s : State) (cause : RevokeCause),
    (s.arb.yieldAsked = true → s.link.state = .awaitFirst → ∀ w, s.link.await = some w →
      s.onYieldAsked = if w.ending = true then s else (s.logComplete w.entry .preEmpted).release.toIdle) ∧
    (s.arb.yieldAsked = false → s.onYieldAsked = s) ∧
    (s.link.state = .idle → s.linkRevoked cause = ({ s with link.watchChannel := none } : State).claimWatch) ∧
    (s.link.state = .calling → ∀ r, s.link.round = some r →
      let closed (o : LogOutcome) : State := match r.entry with
        | some n => s.logComplete n o
        | none => s
      s.linkRevoked cause = if cause = .radioFault then ((closed .radioFault).backOff r.station).toIdle
        else (closed .preEmpted).toIdle) ∧
    (s.link.state = .awaitFirst → ∀ w, s.link.await = some w →
      s.linkRevoked cause = (s.logComplete w.entry .preEmpted).toIdle) ∧
    ((s.link.state = .sending ∨ s.link.state = .receiving ∨ s.link.state = .clearing) → ∀ e,
      s.link.session = some e → s.linkRevoked cause = (s.closeSession e .preEmpted false).toIdle)

/-- ACCEPT-SET writes a cell of the table; a directive is refused, ignored or accepted by form, cell and conditions;
collective ones are checked and logged. The model's choice (log entry 6): the codes of addressing and of the
acceptance values. -/
def Obligations.DirectivesAreDecidedByCells : Prop :=
  (∀ (s : State) (r : Req) (code addressing value : Nat), s.Settled → s.Passes .acceptSet r →
    (∀ v, Acceptance.ofCode value = some v → 1 ≤ code → code ≤ 12 →
      (addressing = 0 → exec (.acceptSet r code addressing value) s =
        .next ({ s with handler.individual := s.handler.individual.set code v }.answered .acceptSet r (plain .ok) [])) ∧
      (addressing = 1 → code ≠ 1 → code ≠ 2 → code ≠ 12 → exec (.acceptSet r code addressing value) s =
        .next ({ s with handler.collective := s.handler.collective.set code v }.answered .acceptSet r (plain .ok) [])) ∧
      (addressing = 1 → (code = 1 ∨ code = 2 ∨ code = 12) → exec (.acceptSet r code addressing value) s =
        .next (s.answered .acceptSet r
          (if v = .refuse then plain .ok else ⟨.partly, .changes [.cellKept code]⟩) []))) ∧
    ((code = 0 ∨ 12 < code ∨ 2 ≤ addressing ∨ 3 ≤ value) → exec (.acceptSet r code addressing value) s =
      .next (s.answered .acceptSet r (plain .badArgument) []))) ∧
  ((∀ (s : State) (o : Order),
    let number := natOfBytes (o.args.take 2)
    let ship := natOfBytes (o.args.take 3)
    let length := if o.code = 6 then 3 else if o.code = 7 then 6 else if o.code = 8 then 2 else if o.code = 10 then 4 else 1
    let malformed : Prop := o.code = 0 ∨ 12 < o.code ∨ (o.addressing = .individual ∧ o.used < length) ∨
      (o.code = 6 ∧ number = 0) ∨ (o.code = 7 ∧ 1 < natOfBytes ((o.args.drop 4).take 1)) ∨
      (o.code = 10 ∧ ¬(1000000 ≤ ship ∧ ship ≤ 9999999))
    let barred : Prop := o.addressing = .collective ∧ (o.code = 1 ∨ o.code = 2 ∨ o.code = 12)
    let cell := (match o.addressing with
      | .individual => s.handler.individual
      | .collective => s.handler.collective).getD o.code .refuse
    let fits : Prop :=
      (o.code = 2 → ∃ a, s.handler.last = some a ∧ a.station = o.sender) ∧
      (o.code = 5 → s.authority = some o.sender) ∧
      (o.code = 6 → ∃ m, s.record number = some m ∧ m.cls = .report ∧ m.peer = o.sender ∧
        (m.state = .delivered ∨ m.state = .confirmed)) ∧
      (o.code = 9 → o.addressing = .individual → ∀ q, s.handler.silence = some q → q.imposer = o.sender) ∧
      (o.code = 11 → s.knows o.sender = true)
    ((malformed ∨ barred) → s.verdict o = .refused) ∧
    (¬malformed → ¬barred →
      (cell = .ignore → s.verdict o = .ignored) ∧ (cell = .refuse → s.verdict o = .refused) ∧
      (cell = .accept → fits → s.verdict o = .accepted) ∧ (cell = .accept → ¬fits → s.verdict o = .refused)) ∧
    (o.addressing = .individual →
      (s.verdict o = .accepted → s.takeDirective o = (s.obey o, .accepted)) ∧
      (s.verdict o ≠ .accepted → s.takeDirective o = (s, s.verdict o))) ∧
    (o.addressing = .collective →
      (s.verdict o = .ignored → s.takeDirective o = (s, .ignored)) ∧
      (s.verdict o = .refused → s.takeDirective o =
        (s.logMoment .collectiveDirective o.sender o.channel .refused, .refused)) ∧
      (s.verdict o = .accepted → s.takeDirective o = ((s.logMoment .collectiveDirective o.sender o.channel .complete
        (if o.code = 6 then some number else none)).obey o, .accepted)))) ∧
  ∀ (s : State) (p : Path) (c : RxCollective),
    let kind := natOfBytes ((c.payload.drop 1).take 1)
    let field := (c.payload.drop 2).take 3
    let area := natOfBytes (field.drop 2)
    let matching : Prop := kind = 0 ∨
      (kind = 1 ∧ 1 ≤ area ∧ area ≤ 32 ∧ ∀ l, s.time.areaSet = some l → area ∈ l) ∨
      (kind = 2 ∧ natOfBytes field = s.settings.identity.number)
    let pair := (c.station, c.frame)
    ((pair ∈ s.handler.recent ∨ ¬matching) → s.checkDirective p c = s) ∧
    (pair ∉ s.handler.recent → matching → s.checkDirective p c =
      (State.takeDirective { s with
        handler.recent := (if 8 ≤ s.handler.recent.length then s.handler.recent.tail else s.handler.recent) ++ [pair] }
        { code := natOfBytes (c.payload.take 1), args := c.payload.drop 5, used := c.payload.length
          addressing := .collective, sender := c.station
          channel := match p with
            | .main => s.main.tuned.getD 0
            | .watch => s.watch.pos }).1))

/-- The effects of accepted directives: answers, shore-holds, polls, receipts, the clock, silence, acknowledgements of
distress and the reset of the link state. The model's choice (log entries 21, 22, 23, 24, 40, 46, 51, 60): the due test at
a renewed silence, the hold kept by an ALERT of a closed alert that is on the air when DISTRESS-ACK finds the unit PENDING,
what the notice of an ended silence carries, and the ascending order of a collective hold, and the due test comes before
the claim of the call watch; and at SET-CLOCK, as at SET-TIME, timers other than the fix age that have passed stay due, the
order of the calendar entries, the choice of the call-watch channel after them, the day before day 0, and REVOKED and
GRANTED taken after the whole step. -/
def Obligations.DirectivesTakeEffect : Prop :=
  (∀ (s : State) (o : Order),
    let answered (a : AnswerRecord) (station : Nat) : State := { s with
      handler.serial := s.handler.serial + 1
      handler.last := some { station, record := a, serial := s.handler.serial + 1, owed := true } }
    let fix := s.time.fix
    let counts (q : QuotaState) : Nat := (s.catch_.species.filter fun e => e.2.state == q).length
    let number := natOfBytes (o.args.take 2)
    let value := BitVec.ofNat 32 (natOfBytes (o.args.take 4))
    let precise : Prop := natOfBytes ((o.args.drop 4).take 1) = 0
    let ship := natOfBytes (o.args.take 3)
    (o.code = 1 → s.obey o = answered (.status s.settings.identity.number s.time.now
      (fix.elim 0 fun (f : Fix) => f.lat) (fix.elim 0 fun (f : Fix) => f.lon) (fix.elim 0 fun (f : Fix) => f.time)
      (fix.elim true fun (f : Fix) => decide (600 < (s.time.now - f.time).toNat)) s.time.source s.store.free.length
      (s.store.recs.filter fun e => e.2.state == .queued).length s.distress.state (counts .near) (counts .reached))
      o.sender) ∧
    (o.code = 12 → s.obey o = answered (.identity s.settings.identity.number s.settings.identity.name
      s.settings.identity.callSign) o.sender) ∧
    (o.code = 2 → ∀ a, s.handler.last = some a →
      s.obey o = if a.owed = true then s else answered a.record a.station) ∧
    ((o.code = 3 ∨ o.code = 4) →
      (o.addressing = .individual → s.obey o = s.setShoreHold o.sender (decide (o.code = 3))) ∧
      (o.addressing = .collective → s.obey o = (s.dir.stations.map fun e => e.2.cfg.number).foldl
        (fun t n => t.setShoreHold n (decide (o.code = 3))) s)) ∧
    (o.code = 5 → s.obey o = (s.trigger .poll).1) ∧
    (o.code = 6 → ∀ m, s.record number = some m →
      (m.state = .delivered → s.obey o = { s with
        store.recs := s.store.recs.upd number fun (x : MsgRec) => { x with state := .confirmed }
        raised := s.raised ++ [.reportConfirmed number m.span]
        catch_.overdue := s.catch_.overdue.del number, catch_.lastConfirmed := m.span }) ∧
      (m.state ≠ .delivered → s.obey o = s)) ∧
    (o.code = 7 →
      ((precise ∨ s.time.source = .unset) →
        let d := value - s.time.now
        let later (t : Option Time) : Option Time := t.map (· + d)
        let moved : State := { s with
          time := { s.time with
            now := value, source := .coast, fix := s.time.fix.map fun (f : Fix) => { f with time := f.time + d } }
          dir.stations := s.dir.stations.mapVals fun (x : Station) => { x with nextCall := later x.nextCall }
          dir.channels := s.dir.channels.mapVals fun (c : Channel) => { c with lastFail := later c.lastFail }
          link.round := s.link.round.map fun (x : Round) => { x with listen := later x.listen }
          link.await := s.link.await.map fun (w : Await) => { w with wait := later w.wait }
          link.session := s.link.session.map fun (e : Session) =>
            { e with tallyWin := later e.tallyWin, receiveWin := later e.receiveWin, clearWait := later e.clearWait }
          handler.silence := s.handler.silence.map fun (q : Silence) => { q with endTime := q.endTime + d }
          bcast.windows := s.bcast.windows.map fun (w : Window) => { w with endTime := w.endTime + d }
          catch_.overdue := s.catch_.overdue.mapVals fun (t : Time) => t + d
          catch_.deferral := later s.catch_.deferral
          distress.nextCycle := later s.distress.nextCycle
          distress.holdTimer := later s.distress.holdTimer
          distress.slot := later s.distress.slot
          main.flight := s.main.flight.map fun (t : Tune) => { t with timer := later t.timer }
          watch.flight := s.watch.flight.map fun (t : Tune) => { t with timer := later t.timer }
          watch.timer := later s.watch.timer }
        let dated : State := if s.time.source = .unset then
            { moved with
              bcast.schedule := s.bcast.schedule.mapVals fun (e : Schedule) =>
                { e with lastTaken := some (latestDay value e.cfg.start) }
              catch_.reportTaken := some (latestDay value s.catch_.reportTime) }
          else moved
        let aged : State := match moved.time.fix with
          | some f =>
            if f.ageArmed = true ∧ (value - (f.time + 601#32)).toNat < 2 ^ 31 then
              { dated with
                time.fix := some { f with ageArmed := false }, time.areaSet := none
                raised := s.raised ++ [.positionStale f] }
            else dated
          | none => dated
        let tested := ((s.bcast.schedule.map fun e => e.1).foldl State.scheduleDue aged).reportDue
        let told : State := if 2 ≤ d.toInt ∨ d.toInt ≤ -2 then
            { tested with raised := tested.raised ++ [.clockStepped s.time.now value .coast] }
          else tested
        s.obey o = if told.arb.holder = some .watch then told.chooseWatch else told) ∧
      (¬precise → s.time.source ≠ .unset → s.obey o = s)) ∧
    (o.code = 8 →
      let minutes := min (max (natOfBytes (o.args.take 1)) 1) 120
      let end_ := s.time.now + BitVec.ofNat 32 (minutes * 60)
      let cause : SilenceCause := if s.handler.silence.isSome then .renewed else .imposed
      s.obey o = (State.yieldInClearing { s with
        handler.silence := some { imposer := o.sender, endTime := end_ }
        raised := s.raised ++ [.silence true (some o.sender) (some end_) cause] }).post .dueTest) ∧
    (o.code = 9 →
      (s.handler.silence = none → s.obey o = s) ∧
      (∀ q, s.handler.silence = some q → s.obey o = State.post { s with
        handler.silence := none, raised := s.raised ++ [.silence false none none .ended] } .dueTest)) ∧
    (o.code = 10 → ship ≠ s.settings.identity.number → s.obey o = { s with
      distress.list := s.distress.list.map fun (e : DistressEntry) =>
        if e.ship = ship ∧ e.state ≠ .cancelled then { e with state := .shoreAcked } else e }) ∧
    (o.code = 10 → ship = s.settings.identity.number →
      let logged := s.logMoment .distressAck o.sender o.channel .complete
      let told (t : State) : State := t.raise (.ownAlert .acknowledged .acknowledged s.distress.nature s.distress.persons
        s.distress.serial s.distress.started (some o.sender) none)
      ((s.distress.state = .quiet ∨ s.distress.state = .acknowledged ∨ s.distress.state = .cancelling) →
        s.obey o = logged) ∧
      (s.distress.state = .pending → s.distress.onAir = false → s.obey o = (told { logged.releaseDistress with
        distress.state := .acknowledged, distress.ackStation := some o.sender }).post .dueTest) ∧
      (s.distress.state = .pending → s.distress.onAir = true → s.obey o = (told { logged with
        distress.state := .acknowledged, distress.ackStation := some o.sender, distress.grantAfter := false
        distress.releaseAfter := true }).post .dueTest) ∧
      (s.distress.state = .alerting →
        let stopped : State := match s.distress.logEntry with
          | some n => { logged.logComplete n .complete with distress.logEntry := none }
          | none => logged
        let acked := told { stopped with
          distress.state := .acknowledged, distress.ackStation := some o.sender, distress.slot := none
          distress.nextCycle := none, distress.rotating := false, distress.awaitTune := false }
        s.obey o = (if s.distress.onAir = true then { acked with distress.releaseAfter := true }
          else acked.releaseDistress).post .dueTest)) ∧
    (o.code = 11 → ∀ st, s.stationOf o.sender = some st →
      let cleared := s.setShoreHold o.sender false
      s.obey o = State.post { cleared with
        handler.last := cleared.handler.last.filter fun a => a.station != o.sender
        dir.channels := cleared.dir.channels.map fun (c : Nat × Channel) =>
          if c.1 ∈ st.cfg.channels then (c.1, { c.2 with q := 500 }) else c
        dir.stations := cleared.dir.stations.map fun (e : Nat × Station) =>
          if e.2.cfg.number = o.sender then
            (e.1, { e.2 with k := 0, nextCall := none, nextCallArmed := false, noChannel := false })
          else e } .dueTest)) ∧
  (∀ s : State,
    (∀ e, s.link.session = some e → s.link.state = .clearing → e.clearWait ≠ none →
      (s.arb.yieldAsked = true ∨ ∃ q, s.handler.silence = some q ∧ q.imposer ≠ e.peer) →
        s.yieldInClearing = s.sendClear .done) ∧
    ((∀ e, s.link.session = some e → s.link.state ≠ .clearing ∨ e.clearWait = none ∨
      (s.arb.yieldAsked = false ∧ ∀ q, s.handler.silence = some q → q.imposer = e.peer)) → s.yieldInClearing = s)) ∧
  ∀ (s : State) (number : Nat) (v : Bool),
    let turned : State := { s with
      dir.stations := s.dir.stations.map fun (e : Nat × Station) =>
        if e.2.cfg.number = number then (e.1, { e.2 with shoreHold := v }) else e }
    (s.stationOf number = none → s.setShoreHold number v = s) ∧
    ∀ st, s.stationOf number = some st →
      (st.shoreHold = v → s.setShoreHold number v = s) ∧
      (st.shoreHold ≠ v → v = true →
        let back : List Nat := (s.store.recs.filter fun e =>
          e.2.dir = .outbound ∧ e.2.state = .sending ∧ e.2.peer = number ∧ 1 < e.2.prec.code).map (·.1)
        s.setShoreHold number v = { turned with
          raised := s.raised ++ [.holdChanged number true st.consoleHold]
          store.recs := s.store.recs.map fun e => if e.1 ∈ back then (e.1, { e.2 with state := .queued }) else e
          link.session := s.link.session.map fun (e : Session) =>
            { e with
              outMsg := e.outMsg.filter fun m => decide (m.1 ∉ back)
              aborts := e.aborts ++ ((e.outMsg.filter fun m => decide (m.1 ∈ back)).map fun m => (m.1, false)).toList
              inFlight := e.inFlight.map fun (f : Flight) =>
                if f.ends.any (fun n => decide (n ∈ back)) = true then { f with ends := none } else f
              later := e.later ++ (e.inFlight.filterMap fun (f : Flight) => f.ends).filter fun n => decide (n ∈ back) } }) ∧
      (st.shoreHold ≠ v → v = false → s.setShoreHold number v = State.post { turned with
        raised := s.raised ++ [.holdChanged number false st.consoleHold]
        link.session := if s.link.state = .sending then s.link.session.map fun (e : Session) =>
            if e.peer = number then { e with heldTurn := true } else e
          else s.link.session } .dueTest)

/-- An occurrence passes, is missed, or becomes a window with its claim; a window tunes at its grant, receives, and
ends missed, cut off or complete. The model's choice (log entries 24, 51, 58): the opening of an occurrence on the day
before day 0, and REVOKED and GRANTED taken after the whole step, and the record keeps the station number read at the
taking. -/
def Obligations.WindowsTakeTheirCourse : Prop :=
  (∀ (s : State) (entry : Nat) (cfg : ScheduleCfg) (day : Int),
    let opening : Time := BitVec.ofInt 32 (day * 86400 + cfg.start * 60)
    let endTime : Time := opening + BitVec.ofNat 32 (cfg.duration * 60)
    let number := (s.dir.stations.find cfg.station).elim 0 fun (x : Station) => x.cfg.number
    let missed : Prop := (s.time.now - endTime).toNat < 2 ^ 31 ∨ s.dir.stations.find cfg.station = none ∨
      (∀ c, s.dir.channels.find cfg.channel = some c → c.cfg.disabled = true ∨ c.cfg.use ≠ .broadcast) ∨
      ∃ w ∈ s.bcast.windows, w.entry = entry
    let claim : Claim := if cfg.must = true then .must entry else .optional entry
    let window : Window :=
      { entry, station := number, channel := cfg.channel, must := cfg.must, opening, endTime, state := .waiting
        logEntry := 0, rx := { next := none, held := [], settled := 0, errored := 0, bulletin := none } }
    let placed := State.place { s with bcast.windows := s.bcast.windows ++ [window] } claim
    let given := if claim ∈ placed.arb.waiting ∧ s.link.state = .idle ∧ placed.arb.holder = some .watch then
        placed.release.claimWatch
      else placed
    (cfg.enabled = false → s.takeOccurrence entry cfg day = s) ∧
    (cfg.enabled = true → missed → s.takeOccurrence entry cfg day =
      (s.logMoment .bulletin number cfg.channel .missed).raise (.bulletinMissed entry number opening .missed)) ∧
    (cfg.enabled = true → ¬missed → s.takeOccurrence entry cfg day =
      if (s.arb.holder = none ∨ claim ∈ placed.arb.waiting) ∧ given.arb.holder = some claim then given.windowGranted claim
      else given)) ∧
  ∀ (s : State) (c : Claim) (w : Window), s.windowOf c = some w →
    let changed (t : State) (f : Window → Window) : State :=
      { t with bcast.windows := t.bcast.windows.map fun v => if v.entry = w.entry then f v else v }
    let removed (t : State) : State :=
      { t with bcast.windows := t.bcast.windows.filter fun v => decide (v.entry ≠ w.entry) }
    let told (t : State) (o : LogOutcome) : State := t.raise (.bulletinMissed w.entry w.station w.opening o)
    let windowFigure := if w.rx.settled = 0 then none else some (1000 * w.rx.errored / w.rx.settled)
    let cut (bulletin window : LogOutcome) : State := State.logComplete (match w.rx.bulletin with
        | some b => s.logComplete b.entry bulletin none (some (1000 * b.errored / b.frames))
        | none => s) w.logEntry window none windowFigure
    (w.state = .waiting → s.windowGranted c = State.tuneMain (changed (s.logWrite .bulletin w.station w.channel)
      fun v => { v with state := .tuning, logEntry := s.log.next }) w.channel c) ∧
    (w.state ≠ .waiting → s.windowGranted c = s) ∧
    s.windowRefused c = removed (told (s.logMoment .bulletin w.station w.channel .radioFault) .radioFault) ∧
    (w.state = .tuning → s.windowTuned c true = changed s fun v =>
      { v with
        state := .receiving
        rx := { next := none, held := [], settled := 0, errored := 0, bulletin := none } }) ∧
    (w.state = .tuning → s.windowTuned c false =
      (removed (told (s.logComplete w.logEntry .radioFault none windowFigure) .radioFault)).release) ∧
    (w.state ≠ .tuning → ∀ ready, s.windowTuned c ready = s) ∧
    (∀ n, s.windowRevoked c (.preEmpted n) = removed (cut .preEmpted .preEmpted)) ∧
    s.windowRevoked c .radioFault = told (removed (cut .radioFault .radioFault)) .radioFault ∧
    (w.state = .waiting → s.windowEnded w = removed (told
      ((s.withdrawClaim (if w.must = true then .must w.entry else .optional w.entry)).logMoment .bulletin w.station
        w.channel .missed) .missed)) ∧
    (w.state ≠ .waiting → s.windowEnded w = (removed (cut .lost .complete)).release)

/-- The collective reader settles frames in number order, good or errored; BEGIN opens a bulletin, TEXT and errored
frames fill it, END or BEGIN closes it. The model's choice (log entry 57): a BEGIN with the area count 1 and the
number 0 is invalid. -/
def Obligations.BulletinsAreAssembled : Prop :=
  (∀ (s : State) (c : RxCollective) (kind : Nat),
    ((∀ w ∈ s.bcast.windows, w.state ≠ .receiving) → s.readFrame c kind = s) ∧
    ∀ w, (s.bcast.windows.find? fun v => v.state == .receiving) = some w →
      let n := w.rx.next.getD c.frame
      let d := (c.frame - n).toNat
      let held := if ∃ h ∈ w.rx.held, h.frame = c.frame then w.rx.held
        else w.rx.held ++ [{ frame := c.frame, kind, payload := c.payload }]
      ((c.station ≠ w.station ∨ 32768 ≤ d) → s.readFrame c kind = s) ∧
      (c.station = w.station → d < 32768 →
        s.readFrame c kind = State.settleFrames (d + 8) { s with
          bcast.windows := s.bcast.windows.map fun v =>
            if v.entry = w.entry then { v with rx.next := some n, rx.held := held } else v } w.entry c.frame c.second)) ∧
  (∀ (s : State) (k entry : Nat) (f n : Half) (second : Bool) (w : Window), s.window entry = some w →
    w.rx.next = some n →
    let ahead := (f - n).toNat
    let moved (held : List HeldFrame) : State := { s with
      bcast.windows := s.bcast.windows.map fun v =>
        if v.entry = entry then { v with rx.next := some (n + 1), rx.held := held } else v }
    s.settleFrames 0 entry f second = s ∧
    (∀ h, (w.rx.held.find? fun x => x.frame == n) = some h → s.settleFrames (k + 1) entry f second =
      State.settleFrames k ((moved (w.rx.held.filter fun x => decide (x.frame ≠ n))).takeSettled entry
        (some (h.kind, h.payload))) entry f second) ∧
    ((∀ x ∈ w.rx.held, x.frame ≠ n) →
      (1 ≤ ahead → ahead < 32768 → (second = true ∨ 6 ≤ ahead) → s.settleFrames (k + 1) entry f second =
        State.settleFrames k ((moved w.rx.held).takeSettled entry none) entry f second) ∧
      (¬(1 ≤ ahead ∧ ahead < 32768 ∧ (second = true ∨ 6 ≤ ahead)) → s.settleFrames (k + 1) entry f second = s))) ∧
  (∀ (s : State) (entry : Nat) (w : Window), s.window entry = some w →
    let counted (errored : Nat) : State := { s with
      bcast.windows := s.bcast.windows.map fun v =>
        if v.entry = entry then
          { v with rx.settled := v.rx.settled + 1, rx.errored := v.rx.errored + errored }
        else v }
    let put (t : State) (b : Option Bulletin) : State := { t with
      bcast.windows := t.bcast.windows.map fun v => if v.entry = entry then { v with rx.bulletin := b } else v }
    let filled (b : Bulletin) (l : List Byte) (errored : Nat) : Option Bulletin :=
      some { b with text := (b.text ++ l).take 3072, frames := b.frames + 1, errored := b.errored + errored }
    (∀ b payload, w.rx.bulletin = some b →
      s.takeSettled entry (some (1, payload)) =
        put (counted 0) (filled b ((payload.filter fun x => decide (x ≠ 0)).map airByte) 0) ∧
      s.takeSettled entry (some (2, payload)) = (put (counted 0) none).closeBulletin w.station b ∧
      s.takeSettled entry none = put (counted 1) (filled b (List.replicate 16 0x2A) 1)) ∧
    (∀ payload, w.rx.bulletin = none →
      s.takeSettled entry (some (1, payload)) = counted 0 ∧ s.takeSettled entry (some (2, payload)) = counted 0 ∧
      s.takeSettled entry none = counted 1) ∧
    (∀ kind payload, 3 ≤ kind → s.takeSettled entry (some (kind, payload)) = counted 0) ∧
    ∀ payload,
      let closed : State := match w.rx.bulletin with
        | some b => (put (counted 0) none).closeBulletin w.station b
        | none => counted 0
      (beginOf payload = none → s.takeSettled entry (some (0, payload)) = closed) ∧
      ∀ identity areas, beginOf payload = some (identity, areas) → s.takeSettled entry (some (0, payload)) =
        put (closed.logWrite .bulletin w.station w.channel)
          (some { identity, areas, text := [], frames := 0, errored := 0, entry := closed.log.next })) ∧
  (∀ (l1 l2 k n count : Byte) (rest payload : List Byte),
    let areas := (rest.take count.toNat).map fun a => a.toNat
    let capital (x : Byte) : Prop := 0x41 ≤ x.toNat ∧ x.toNat ≤ 0x5A
    let good : Prop := capital l1 ∧ capital l2 ∧ n.toNat ≤ 99 ∧ count.toNat ≤ 8 ∧ areas.Nodup ∧
      ∀ a ∈ areas, 1 ≤ a ∧ a ≤ 32
    (∀ kind, BulletinKind.ofLetter k = some kind → good → beginOf (l1 :: l2 :: k :: n :: count :: rest) =
      some ({ letter1 := l1, letter2 := l2, kind, serial := n.toNat }, areas)) ∧
    ((BulletinKind.ofLetter k = none ∨ ¬good) → beginOf (l1 :: l2 :: k :: n :: count :: rest) = none) ∧
    (payload.length < 5 → beginOf payload = none)) ∧
  ∀ (s : State) (station : Nat) (b : Bulletin),
    let passes : Prop := b.areas = [] ∨ b.identity.kind = .gale ∨ s.time.areaSet = none ∨
      ∃ a ∈ b.areas, a ∈ s.time.watchAreas ∨ ∃ l, s.time.areaSet = some l ∧ a ∈ l
    (passes → s.closeBulletin station b = s.register station b) ∧
    (¬passes → s.closeBulletin station b =
      s.logComplete b.entry .filtered none (some (1000 * b.errored / b.frames)))

/-- A bulletin of an identity not held is stored and registered, a better copy replaces the held one, any other copy
is a duplicate; each entry carries its figure. -/
def Obligations.RegisterTakesBulletins : Prop :=
  ∀ (s : State) (station : Nat) (b : Bulletin),
    let figure := 1000 * b.errored / b.frames
    let recent := s.bcast.register.filter fun (e : RegEntry) => decide ((s.time.now - e.received).toNat ≤ 259200)
    let aged : State := { s with bcast.register := recent }
    let prec : Prec := match b.identity.kind with
      | .gale | .navigation => .safety
      | .weather | .ice => .routine
    let record : MsgRec :=
      { cls := .bulletin, dir := .inbound, prec, state := .stored, orig := .air
        peer := station, peerRef := none, created := s.time.now, textLen := b.text.length, text := b.text, pages := []
        attempts := 0, readMask := ⟨false, false, false⟩, keep := false, withdrawPending := false, delivered := none
        identity := some b.identity, span := none, errFig := some figure }
    let run := aged.allocText (if b.identity.kind = .gale then .reserve else .ordinary) record
    let lost : State := run.2.logComplete b.entry .lost none (some figure)
    let kept (t : State) (n : Nat) : State := (t.logComplete b.entry .complete (some n) (some figure)).raise
      (.bulletinStored n b.identity figure station)
    let entry (n : Nat) : RegEntry := { identity := b.identity, received := s.time.now, errFig := figure, msg := some n }
    let l := run.2.bcast.register
    ((∀ e ∈ aged.bcast.register, e.identity ≠ b.identity) →
      (run.1 = none → s.register station b = lost) ∧
      ∀ n, run.1 = some n → s.register station b =
        kept { run.2 with bcast.register := (if 64 ≤ l.length then l.tail else l) ++ [entry n] } n) ∧
    ∀ e, (aged.bcast.register.find? fun x => x.identity == b.identity) = some e →
      (∀ old, e.msg = some old → figure < e.errFig →
        (run.1 = none → s.register station b = lost) ∧
        ∀ n, run.1 = some n →
          let better : State := { run.2 with
            bcast.register := (l.filter fun x => decide (x.identity ≠ b.identity)) ++ [entry n] }
          s.register station b = kept (if (∃ x ∈ l, x.msg = some old) ∧
              (∀ m, run.2.record old = some m → m.keep = false) then better.freeRecord old else better) n) ∧
      (∀ old, e.msg = some old → e.errFig ≤ figure →
        s.register station b = aged.logComplete b.entry .duplicate (some old) (some figure)) ∧
      (e.msg = none → s.register station b = aged.logComplete b.entry .duplicate none (some figure))

/-- A claim is granted, takes airtime at once, waits by class, or is refused; a release grants the next; an outage
revokes; raising asks that no higher claim waits. The model's choice (log entry 16): a waiting tune goes out after the
arbiter has acted on the outage. -/
def Obligations.AirtimeIsGrantedAndTaken : Prop :=
  ∀ (s : State) (c : Claim),
    let cls : Claim → Nat := fun d => match d with
      | .distress => 1
      | .must _ => 2
      | .session => 3
      | .call => 4
      | .optional _ => 5
      | .watch => 6
    let granted (t : State) (d : Claim) : State := match d with
      | .distress => { t with arb.holder := some .distress, distress.granted := true }
      | _ => { t with arb.holder := some d, msgs := t.msgs ++ [.granted d] }
    let dropped : State := { s with
      ctl := if s.main.onAir.isSome then
          { tag := s.ctl.tag + 1
            cmds := s.ctl.cmds ++ [{ radio := .main, tag := s.ctl.tag, kind := .unkey, tx := 0, rx := 0 }] }
        else s.ctl
      main := { s.main with
        keyed := s.main.keyed && s.main.onAir.isNone, onAir := none, burstQ := [], nextTune := none
        flight := s.main.flight.map fun (t : Tune) => { t with requester := none } }
      arb := { s.arb with holder := none, yieldAsked := false } }
    let revoked (cause : RevokeCause) (h : Claim) : State := { dropped with msgs := s.msgs ++ [.revoked h cause] }
    let joined : List Claim := (s.arb.waiting.takeWhile fun d => decide (cls d ≤ cls c)) ++
      c :: s.arb.waiting.dropWhile fun d => decide (cls d ≤ cls c)
    let must (l : List Claim) : Prop := ∃ d ∈ l, cls d = 2
    let idle : Prop := s.phase ≠ .running ∨ s.arb.holder = some c ∨ c ∈ s.arb.waiting
    let barred : Prop := s.main.inService = false ∧ c ≠ .distress
    let takes (h : Claim) : Prop := (cls c = 1 ∧ cls h ≠ 1) ∨ (cls c = 2 ∧ 4 ≤ cls h)
    let left := s.arb.waiting.filter fun d => decide (d ≠ c)
    let withdrawn (b : Bool) : State := { s with arb.waiting := left, arb.yieldAsked := b }
    (idle → s.place c = s) ∧
    (¬idle → barred → s.place c = s.post (.refused c)) ∧
    (¬idle → ¬barred →
      (s.arb.holder = none → s.place c = granted s c) ∧
      ∀ h, s.arb.holder = some h →
        (takes h → s.place c = granted (revoked (.preEmpted (cls c)) h) c) ∧
        (¬takes h →
          let waits : State := { s with arb.waiting := joined }
          (cls c = 2 → cls h = 3 → s.place c = if s.arb.yieldAsked = true then waits
            else { waits with arb.yieldAsked := true, msgs := s.msgs ++ [.yieldAsked] }) ∧
          (3 ≤ cls c → cls c ≤ 5 → cls h = 6 → s.place c = { waits with msgs := s.msgs ++ [.higherWaiting] }) ∧
          (¬(cls c = 2 ∧ cls h = 3) → ¬(3 ≤ cls c ∧ cls c ≤ 5 ∧ cls h = 6) → s.place c = waits))) ∧
    s.release = dropped.grantFrom s.arb.waiting ∧
    s.grantFrom [] = { s with arb.waiting := [] } ∧
    (∀ rest,
      (barred → s.grantFrom (c :: rest) = (s.post (.refused c)).grantFrom rest) ∧
      (¬barred →
        let t := granted { s with arb.waiting := rest } c
        (cls c = 3 → must rest → s.grantFrom (c :: rest) =
          { t with arb.yieldAsked := true, msgs := t.msgs ++ [.yieldAsked] }) ∧
        (cls c = 6 → (∃ d ∈ rest, 3 ≤ cls d ∧ cls d ≤ 5) → s.grantFrom (c :: rest) =
          { t with msgs := t.msgs ++ [.higherWaiting] }) ∧
        (¬(cls c = 3 ∧ must rest) → ¬(cls c = 6 ∧ ∃ d ∈ rest, 3 ≤ cls d ∧ cls d ≤ 5) →
          s.grantFrom (c :: rest) = t))) ∧
    (must left → s.withdrawClaim c = withdrawn s.arb.yieldAsked) ∧
    (¬must left → s.withdrawClaim c = withdrawn false) ∧
    (s.arb.holder = some c → s.giveUp c = s.release) ∧ (s.arb.holder ≠ some c → s.giveUp c = s.withdrawClaim c) ∧
    ((∃ d ∈ s.arb.waiting, cls d < 3) → s.raiseToSession = none) ∧
    ((∀ d ∈ s.arb.waiting, 3 ≤ cls d) → s.raiseToSession = some { s with arb.holder := some .session }) ∧
    (∀ h, s.arb.holder = some h →
      (h = .distress → s.radioOutOfService = s.sendWaitingTune) ∧
      (h ≠ .distress → s.radioOutOfService =
        ((revoked .radioFault h).grantFrom s.arb.waiting).sendWaitingTune)) ∧
    (s.arb.holder = none → s.radioOutOfService = (s.grantFrom s.arb.waiting).sendWaitingTune)

/-- Samples move Q, scores weigh it and the best enabled channel is chosen; floors set the first record to send and
the due station; failed rounds back off. The model's choice (log entry 34): a record with its withdrawal pending is
left out of the sending order. -/
def Obligations.ChannelsAndStationsAreChosen : Prop :=
  ∀ s : State,
    let hour := s.time.now.toNat % 86400 / 3600
    let open_ (c : ChannelCfg) : Prop := c.startHour = c.endHour ∨ (s.time.source ≠ .unset ∧
      ((c.startHour < c.endHour ∧ c.startHour ≤ hour ∧ hour < c.endHour) ∨
        (c.endHour < c.startHour ∧ (c.startHour ≤ hour ∨ hour < c.endHour))))
    let failed (c : Channel) : Prop := ∃ t, c.lastFail = some t ∧ (s.time.now - t).toNat < 600
    let old (m : MsgRec) : Nat := (s.time.now - m.created).toNat
    let before (a b : Nat × MsgRec) : Prop := a.2.prec.code < b.2.prec.code ∨ (a.2.prec = b.2.prec ∧
      (old b.2 < old a.2 ∨ (old a.2 = old b.2 ∧ a.1 < b.1)))
    let barred : Prop := s.distress.state = .pending ∨ s.distress.state = .alerting ∨ s.distress.state = .cancelling
    (∀ n v, s.sample n v = { s with dir.channels := s.dir.channels.map fun (c : Nat × Channel) =>
      if c.1 = n then
        (c.1, { c.2 with q := if c.2.q ≤ v then c.2.q + (v - c.2.q + 3) / 4 else c.2.q - (c.2.q - v + 3) / 4 })
      else c }) ∧
    (∀ c : Channel,
      (open_ c.cfg → ¬failed c → s.score c = 2 * c.q) ∧ (open_ c.cfg → failed c → s.score c = c.q) ∧
      (¬open_ c.cfg → ¬failed c → s.score c = c.q) ∧ (¬open_ c.cfg → failed c → s.score c = c.q / 2)) ∧
    (∀ (st : Station) (traffic : Bool),
      let candidate (n : Nat) (c : Channel) : Prop := s.channel n = some c ∧ c.cfg.disabled = false ∧
        (traffic = true → c.cfg.use = .traffic)
      let choice := if traffic then s.watchChannelOf st else s.callChannel st
      ((∀ n ∈ st.cfg.channels, ∀ c, ¬candidate n c) → choice = none) ∧
      ∀ l n l' c, st.cfg.channels = l ++ n :: l' → candidate n c →
        (∀ m ∈ l, ∀ d, candidate m d → s.score d < s.score c) →
        (∀ m ∈ l', ∀ d, candidate m d → s.score d ≤ s.score c) → choice = some n) ∧
    (∀ number : Nat,
      let silenced : Prop := ∃ q, s.handler.silence = some q ∧ q.imposer ≠ number
      let held : Prop := ∃ st, s.stationOf number = some st ∧ (st.shoreHold = true ∨ st.consoleHold = true)
      ((barred ∨ silenced) → s.floor number = none) ∧
      (¬barred → ¬silenced →
        (s.distress.state = .acknowledged → s.floor number = some .distress) ∧
        (s.distress.state = .quiet → held → s.floor number = some .urgency) ∧
        (s.distress.state = .quiet → ¬held → s.floor number = some .routine))) ∧
    (∀ (number : Nat) (floor : Option Prec),
      let sendable (m : MsgRec) : Prop := m.dir = .outbound ∧ m.state = .queued ∧ m.withdrawPending = false ∧
        m.peer = number ∧ ∃ p, floor = some p ∧ m.prec.code ≤ p.code
      ((∀ e ∈ s.store.recs, ¬sendable e.2) → s.firstToSend number floor = none) ∧
      ∀ e ∈ s.store.recs, sendable e.2 → (∀ d ∈ s.store.recs, sendable d.2 → d = e ∨ before e d) →
        s.firstToSend number floor = some e) ∧
    (let first (st : Station) := s.firstToSend st.cfg.number (s.floor st.cfg.number)
    let due (st : Station) : Prop := st.noChannel = false ∧ first st ≠ none ∧
      ∀ t, st.nextCall = some t → (s.time.now - t).toNat < 2 ^ 31
    (∀ st, s.due st = true ↔ due st) ∧
    ((∀ e ∈ s.dir.stations, ¬due e.2) → s.dueChoice = none) ∧
    ∀ e ∈ s.dir.stations, due e.2 → ∀ r, first e.2 = some r →
      (∀ d ∈ s.dir.stations, due d.2 → ∀ r', first d.2 = some r' → d = e ∨ before r r') →
      s.dueChoice = some e.2.cfg.number) ∧
    ∀ (number : Nat) (st : Station), s.stationOf number = some st →
      let k := min (st.k + 1) 255
      let drawn : BitVec 32 := 1664525#32 * s.time.prng + 1013904223#32
      let wait := min (5 * 2 ^ (k - 1)) 60 * 60 + drawn.toNat / 65536 % 60
      s.backOff number = { s with
        time.prng := drawn
        dir.stations := s.dir.stations.map fun (e : Nat × Station) =>
          if e.2.cfg.number = number then
            (e.1, { e.2 with k := k, nextCall := some (s.time.now + BitVec.ofNat 32 wait), nextCallArmed := true })
          else e }

end
end

