-- ==== Sys2Proof/Laws/State.lean ====
section
/-! SUPPORT. What each shared update of State leaves and changes, field by field, true by definition. -/

namespace Sys2Proof.Machine

variable (s : State)

/-! ### A message is posted -/

@[simp] theorem post_pending (m : Msg) : (s.post m).pending = s.pending := rfl
@[simp] theorem post_msgs (m : Msg) : (s.post m).msgs = s.msgs ++ [m] := rfl
@[simp] theorem post_raised (m : Msg) : (s.post m).raised = s.raised := rfl
@[simp] theorem post_phase (m : Msg) : (s.post m).phase = s.phase := rfl
@[simp] theorem post_startCause (m : Msg) : (s.post m).startCause = s.startCause := rfl
@[simp] theorem post_ports (m : Msg) : (s.post m).ports = s.ports := rfl
@[simp] theorem post_store (m : Msg) : (s.post m).store = s.store := rfl
@[simp] theorem post_log (m : Msg) : (s.post m).log = s.log := rfl
@[simp] theorem post_dir (m : Msg) : (s.post m).dir = s.dir := rfl
@[simp] theorem post_time (m : Msg) : (s.post m).time = s.time := rfl
@[simp] theorem post_link (m : Msg) : (s.post m).link = s.link := rfl
@[simp] theorem post_handler (m : Msg) : (s.post m).handler = s.handler := rfl
@[simp] theorem post_bcast (m : Msg) : (s.post m).bcast = s.bcast := rfl
@[simp] theorem post_catch_ (m : Msg) : (s.post m).catch_ = s.catch_ := rfl
@[simp] theorem post_distress (m : Msg) : (s.post m).distress = s.distress := rfl
@[simp] theorem post_arb (m : Msg) : (s.post m).arb = s.arb := rfl
@[simp] theorem post_main (m : Msg) : (s.post m).main = s.main := rfl
@[simp] theorem post_watch (m : Msg) : (s.post m).watch = s.watch := rfl
@[simp] theorem post_ctl (m : Msg) : (s.post m).ctl = s.ctl := rfl
@[simp] theorem post_mainPath (m : Msg) : (s.post m).mainPath = s.mainPath := rfl
@[simp] theorem post_watchPath (m : Msg) : (s.post m).watchPath = s.watchPath := rfl
@[simp] theorem post_controlRx (m : Msg) : (s.post m).controlRx = s.controlRx := rfl
@[simp] theorem post_navRx (m : Msg) : (s.post m).navRx = s.navRx := rfl
@[simp] theorem post_settings (m : Msg) : (s.post m).settings = s.settings := rfl

/-! ### A notice is raised -/

@[simp] theorem raise_pending (n : Notice) : (s.raise n).pending = s.pending := rfl
@[simp] theorem raise_msgs (n : Notice) : (s.raise n).msgs = s.msgs := rfl
@[simp] theorem raise_raised (n : Notice) : (s.raise n).raised = s.raised ++ [n] := rfl
@[simp] theorem raise_phase (n : Notice) : (s.raise n).phase = s.phase := rfl
@[simp] theorem raise_startCause (n : Notice) : (s.raise n).startCause = s.startCause := rfl
@[simp] theorem raise_ports (n : Notice) : (s.raise n).ports = s.ports := rfl
@[simp] theorem raise_store (n : Notice) : (s.raise n).store = s.store := rfl
@[simp] theorem raise_log (n : Notice) : (s.raise n).log = s.log := rfl
@[simp] theorem raise_dir (n : Notice) : (s.raise n).dir = s.dir := rfl
@[simp] theorem raise_time (n : Notice) : (s.raise n).time = s.time := rfl
@[simp] theorem raise_link (n : Notice) : (s.raise n).link = s.link := rfl
@[simp] theorem raise_handler (n : Notice) : (s.raise n).handler = s.handler := rfl
@[simp] theorem raise_bcast (n : Notice) : (s.raise n).bcast = s.bcast := rfl
@[simp] theorem raise_catch_ (n : Notice) : (s.raise n).catch_ = s.catch_ := rfl
@[simp] theorem raise_distress (n : Notice) : (s.raise n).distress = s.distress := rfl
@[simp] theorem raise_arb (n : Notice) : (s.raise n).arb = s.arb := rfl
@[simp] theorem raise_main (n : Notice) : (s.raise n).main = s.main := rfl
@[simp] theorem raise_watch (n : Notice) : (s.raise n).watch = s.watch := rfl
@[simp] theorem raise_ctl (n : Notice) : (s.raise n).ctl = s.ctl := rfl
@[simp] theorem raise_mainPath (n : Notice) : (s.raise n).mainPath = s.mainPath := rfl
@[simp] theorem raise_watchPath (n : Notice) : (s.raise n).watchPath = s.watchPath := rfl
@[simp] theorem raise_controlRx (n : Notice) : (s.raise n).controlRx = s.controlRx := rfl
@[simp] theorem raise_navRx (n : Notice) : (s.raise n).navRx = s.navRx := rfl
@[simp] theorem raise_settings (n : Notice) : (s.raise n).settings = s.settings := rfl

/-! ### The working lists start empty -/

@[simp] theorem scrub_pending  : (s.scrub).pending = s.pending := rfl
@[simp] theorem scrub_msgs  : (s.scrub).msgs = [] := rfl
@[simp] theorem scrub_raised  : (s.scrub).raised = [] := rfl
@[simp] theorem scrub_phase  : (s.scrub).phase = s.phase := rfl
@[simp] theorem scrub_startCause  : (s.scrub).startCause = s.startCause := rfl
@[simp] theorem scrub_ports  : (s.scrub).ports = s.ports := rfl
@[simp] theorem scrub_store  : (s.scrub).store = s.store := rfl
@[simp] theorem scrub_log  : (s.scrub).log = s.log := rfl
@[simp] theorem scrub_dir  : (s.scrub).dir = s.dir := rfl
@[simp] theorem scrub_time  : (s.scrub).time = s.time := rfl
@[simp] theorem scrub_link  : (s.scrub).link = s.link := rfl
@[simp] theorem scrub_handler  : (s.scrub).handler = s.handler := rfl
@[simp] theorem scrub_bcast  : (s.scrub).bcast = s.bcast := rfl
@[simp] theorem scrub_catch_  : (s.scrub).catch_ = s.catch_ := rfl
@[simp] theorem scrub_distress  : (s.scrub).distress = s.distress := rfl
@[simp] theorem scrub_arb  : (s.scrub).arb = s.arb := rfl
@[simp] theorem scrub_main  : (s.scrub).main = s.main := rfl
@[simp] theorem scrub_watch  : (s.scrub).watch = s.watch := rfl
@[simp] theorem scrub_ctl  : (s.scrub).ctl = s.ctl := rfl
@[simp] theorem scrub_mainPath  : (s.scrub).mainPath = s.mainPath := rfl
@[simp] theorem scrub_watchPath  : (s.scrub).watchPath = s.watchPath := rfl
@[simp] theorem scrub_controlRx  : (s.scrub).controlRx = s.controlRx := rfl
@[simp] theorem scrub_navRx  : (s.scrub).navRx = s.navRx := rfl
@[simp] theorem scrub_settings  : (s.scrub).settings = s.settings := rfl

/-! ### An answer joins a queue -/

@[simp] theorem reply_pending (k : ReqKind) (r : Req) (a : Answer) : (s.reply k r a).pending = s.pending := rfl
@[simp] theorem reply_msgs (k : ReqKind) (r : Req) (a : Answer) : (s.reply k r a).msgs = s.msgs := rfl
@[simp] theorem reply_raised (k : ReqKind) (r : Req) (a : Answer) : (s.reply k r a).raised = s.raised := rfl
@[simp] theorem reply_phase (k : ReqKind) (r : Req) (a : Answer) : (s.reply k r a).phase = s.phase := rfl
@[simp] theorem reply_startCause (k : ReqKind) (r : Req) (a : Answer) : (s.reply k r a).startCause = s.startCause := rfl
@[simp] theorem reply_ports (k : ReqKind) (r : Req) (a : Answer) : (s.reply k r a).ports = s.ports.set r.port ((s.ports.get r.port).enqueue (.answer r.tag k a)) := rfl
@[simp] theorem reply_store (k : ReqKind) (r : Req) (a : Answer) : (s.reply k r a).store = s.store := rfl
@[simp] theorem reply_log (k : ReqKind) (r : Req) (a : Answer) : (s.reply k r a).log = s.log := rfl
@[simp] theorem reply_dir (k : ReqKind) (r : Req) (a : Answer) : (s.reply k r a).dir = s.dir := rfl
@[simp] theorem reply_time (k : ReqKind) (r : Req) (a : Answer) : (s.reply k r a).time = s.time := rfl
@[simp] theorem reply_link (k : ReqKind) (r : Req) (a : Answer) : (s.reply k r a).link = s.link := rfl
@[simp] theorem reply_handler (k : ReqKind) (r : Req) (a : Answer) : (s.reply k r a).handler = s.handler := rfl
@[simp] theorem reply_bcast (k : ReqKind) (r : Req) (a : Answer) : (s.reply k r a).bcast = s.bcast := rfl
@[simp] theorem reply_catch_ (k : ReqKind) (r : Req) (a : Answer) : (s.reply k r a).catch_ = s.catch_ := rfl
@[simp] theorem reply_distress (k : ReqKind) (r : Req) (a : Answer) : (s.reply k r a).distress = s.distress := rfl
@[simp] theorem reply_arb (k : ReqKind) (r : Req) (a : Answer) : (s.reply k r a).arb = s.arb := rfl
@[simp] theorem reply_main (k : ReqKind) (r : Req) (a : Answer) : (s.reply k r a).main = s.main := rfl
@[simp] theorem reply_watch (k : ReqKind) (r : Req) (a : Answer) : (s.reply k r a).watch = s.watch := rfl
@[simp] theorem reply_ctl (k : ReqKind) (r : Req) (a : Answer) : (s.reply k r a).ctl = s.ctl := rfl
@[simp] theorem reply_mainPath (k : ReqKind) (r : Req) (a : Answer) : (s.reply k r a).mainPath = s.mainPath := rfl
@[simp] theorem reply_watchPath (k : ReqKind) (r : Req) (a : Answer) : (s.reply k r a).watchPath = s.watchPath := rfl
@[simp] theorem reply_controlRx (k : ReqKind) (r : Req) (a : Answer) : (s.reply k r a).controlRx = s.controlRx := rfl
@[simp] theorem reply_navRx (k : ReqKind) (r : Req) (a : Answer) : (s.reply k r a).navRx = s.navRx := rfl
@[simp] theorem reply_settings (k : ReqKind) (r : Req) (a : Answer) : (s.reply k r a).settings = s.settings := rfl

/-! ### A command ends -/

@[simp] theorem seal_pending (l : List Instr) : (s.seal l).pending = l := rfl
@[simp] theorem seal_msgs (l : List Instr) : (s.seal l).msgs = [] := rfl
@[simp] theorem seal_raised (l : List Instr) : (s.seal l).raised = [] := rfl
@[simp] theorem seal_phase (l : List Instr) : (s.seal l).phase = s.phase := rfl
@[simp] theorem seal_startCause (l : List Instr) : (s.seal l).startCause = s.startCause := rfl
@[simp] theorem seal_ports (l : List Instr) : (s.seal l).ports = s.ports.map (·.takeAll s.raised) := rfl
@[simp] theorem seal_store (l : List Instr) : (s.seal l).store = s.store := rfl
@[simp] theorem seal_log (l : List Instr) : (s.seal l).log = s.log := rfl
@[simp] theorem seal_dir (l : List Instr) : (s.seal l).dir = s.dir := rfl
@[simp] theorem seal_time (l : List Instr) : (s.seal l).time = s.time := rfl
@[simp] theorem seal_link (l : List Instr) : (s.seal l).link = s.link := rfl
@[simp] theorem seal_handler (l : List Instr) : (s.seal l).handler = s.handler := rfl
@[simp] theorem seal_bcast (l : List Instr) : (s.seal l).bcast = s.bcast := rfl
@[simp] theorem seal_catch_ (l : List Instr) : (s.seal l).catch_ = s.catch_ := rfl
@[simp] theorem seal_distress (l : List Instr) : (s.seal l).distress = s.distress := rfl
@[simp] theorem seal_arb (l : List Instr) : (s.seal l).arb = s.arb := rfl
@[simp] theorem seal_main (l : List Instr) : (s.seal l).main = s.main := rfl
@[simp] theorem seal_watch (l : List Instr) : (s.seal l).watch = s.watch := rfl
@[simp] theorem seal_ctl (l : List Instr) : (s.seal l).ctl = s.ctl := rfl
@[simp] theorem seal_mainPath (l : List Instr) : (s.seal l).mainPath = (if s.mainHeld then .searching else s.mainPath) := rfl
@[simp] theorem seal_watchPath (l : List Instr) : (s.seal l).watchPath = (if s.watchHeld then .searching else s.watchPath) := rfl
@[simp] theorem seal_controlRx (l : List Instr) : (s.seal l).controlRx = s.controlRx := rfl
@[simp] theorem seal_navRx (l : List Instr) : (s.seal l).navRx = s.navRx := rfl
@[simp] theorem seal_settings (l : List Instr) : (s.seal l).settings = s.settings := rfl

/-! ### A record changes -/

@[simp] theorem updRecord_pending (n : Nat) (f : MsgRec → MsgRec) : (s.updRecord n f).pending = s.pending := rfl
@[simp] theorem updRecord_msgs (n : Nat) (f : MsgRec → MsgRec) : (s.updRecord n f).msgs = s.msgs := rfl
@[simp] theorem updRecord_raised (n : Nat) (f : MsgRec → MsgRec) : (s.updRecord n f).raised = s.raised := rfl
@[simp] theorem updRecord_phase (n : Nat) (f : MsgRec → MsgRec) : (s.updRecord n f).phase = s.phase := rfl
@[simp] theorem updRecord_startCause (n : Nat) (f : MsgRec → MsgRec) : (s.updRecord n f).startCause = s.startCause := rfl
@[simp] theorem updRecord_ports (n : Nat) (f : MsgRec → MsgRec) : (s.updRecord n f).ports = s.ports := rfl
@[simp] theorem updRecord_store (n : Nat) (f : MsgRec → MsgRec) : (s.updRecord n f).store = { s.store with recs := s.store.recs.upd n f } := rfl
@[simp] theorem updRecord_log (n : Nat) (f : MsgRec → MsgRec) : (s.updRecord n f).log = s.log := rfl
@[simp] theorem updRecord_dir (n : Nat) (f : MsgRec → MsgRec) : (s.updRecord n f).dir = s.dir := rfl
@[simp] theorem updRecord_time (n : Nat) (f : MsgRec → MsgRec) : (s.updRecord n f).time = s.time := rfl
@[simp] theorem updRecord_link (n : Nat) (f : MsgRec → MsgRec) : (s.updRecord n f).link = s.link := rfl
@[simp] theorem updRecord_handler (n : Nat) (f : MsgRec → MsgRec) : (s.updRecord n f).handler = s.handler := rfl
@[simp] theorem updRecord_bcast (n : Nat) (f : MsgRec → MsgRec) : (s.updRecord n f).bcast = s.bcast := rfl
@[simp] theorem updRecord_catch_ (n : Nat) (f : MsgRec → MsgRec) : (s.updRecord n f).catch_ = s.catch_ := rfl
@[simp] theorem updRecord_distress (n : Nat) (f : MsgRec → MsgRec) : (s.updRecord n f).distress = s.distress := rfl
@[simp] theorem updRecord_arb (n : Nat) (f : MsgRec → MsgRec) : (s.updRecord n f).arb = s.arb := rfl
@[simp] theorem updRecord_main (n : Nat) (f : MsgRec → MsgRec) : (s.updRecord n f).main = s.main := rfl
@[simp] theorem updRecord_watch (n : Nat) (f : MsgRec → MsgRec) : (s.updRecord n f).watch = s.watch := rfl
@[simp] theorem updRecord_ctl (n : Nat) (f : MsgRec → MsgRec) : (s.updRecord n f).ctl = s.ctl := rfl
@[simp] theorem updRecord_mainPath (n : Nat) (f : MsgRec → MsgRec) : (s.updRecord n f).mainPath = s.mainPath := rfl
@[simp] theorem updRecord_watchPath (n : Nat) (f : MsgRec → MsgRec) : (s.updRecord n f).watchPath = s.watchPath := rfl
@[simp] theorem updRecord_controlRx (n : Nat) (f : MsgRec → MsgRec) : (s.updRecord n f).controlRx = s.controlRx := rfl
@[simp] theorem updRecord_navRx (n : Nat) (f : MsgRec → MsgRec) : (s.updRecord n f).navRx = s.navRx := rfl
@[simp] theorem updRecord_settings (n : Nat) (f : MsgRec → MsgRec) : (s.updRecord n f).settings = s.settings := rfl

/-! ### A station entry changes -/

@[simp] theorem updStation_pending (n : Nat) (f : Station → Station) : (s.updStation n f).pending = s.pending := rfl
@[simp] theorem updStation_msgs (n : Nat) (f : Station → Station) : (s.updStation n f).msgs = s.msgs := rfl
@[simp] theorem updStation_raised (n : Nat) (f : Station → Station) : (s.updStation n f).raised = s.raised := rfl
@[simp] theorem updStation_phase (n : Nat) (f : Station → Station) : (s.updStation n f).phase = s.phase := rfl
@[simp] theorem updStation_startCause (n : Nat) (f : Station → Station) : (s.updStation n f).startCause = s.startCause := rfl
@[simp] theorem updStation_ports (n : Nat) (f : Station → Station) : (s.updStation n f).ports = s.ports := rfl
@[simp] theorem updStation_store (n : Nat) (f : Station → Station) : (s.updStation n f).store = s.store := rfl
@[simp] theorem updStation_log (n : Nat) (f : Station → Station) : (s.updStation n f).log = s.log := rfl
@[simp] theorem updStation_time (n : Nat) (f : Station → Station) : (s.updStation n f).time = s.time := rfl
@[simp] theorem updStation_link (n : Nat) (f : Station → Station) : (s.updStation n f).link = s.link := rfl
@[simp] theorem updStation_handler (n : Nat) (f : Station → Station) : (s.updStation n f).handler = s.handler := rfl
@[simp] theorem updStation_bcast (n : Nat) (f : Station → Station) : (s.updStation n f).bcast = s.bcast := rfl
@[simp] theorem updStation_catch_ (n : Nat) (f : Station → Station) : (s.updStation n f).catch_ = s.catch_ := rfl
@[simp] theorem updStation_distress (n : Nat) (f : Station → Station) : (s.updStation n f).distress = s.distress := rfl
@[simp] theorem updStation_arb (n : Nat) (f : Station → Station) : (s.updStation n f).arb = s.arb := rfl
@[simp] theorem updStation_main (n : Nat) (f : Station → Station) : (s.updStation n f).main = s.main := rfl
@[simp] theorem updStation_watch (n : Nat) (f : Station → Station) : (s.updStation n f).watch = s.watch := rfl
@[simp] theorem updStation_ctl (n : Nat) (f : Station → Station) : (s.updStation n f).ctl = s.ctl := rfl
@[simp] theorem updStation_mainPath (n : Nat) (f : Station → Station) : (s.updStation n f).mainPath = s.mainPath := rfl
@[simp] theorem updStation_watchPath (n : Nat) (f : Station → Station) : (s.updStation n f).watchPath = s.watchPath := rfl
@[simp] theorem updStation_controlRx (n : Nat) (f : Station → Station) : (s.updStation n f).controlRx = s.controlRx := rfl
@[simp] theorem updStation_navRx (n : Nat) (f : Station → Station) : (s.updStation n f).navRx = s.navRx := rfl
@[simp] theorem updStation_settings (n : Nat) (f : Station → Station) : (s.updStation n f).settings = s.settings := rfl

/-! ### A channel entry changes -/

@[simp] theorem updChannel_pending (n : Nat) (f : Channel → Channel) : (s.updChannel n f).pending = s.pending := rfl
@[simp] theorem updChannel_msgs (n : Nat) (f : Channel → Channel) : (s.updChannel n f).msgs = s.msgs := rfl
@[simp] theorem updChannel_raised (n : Nat) (f : Channel → Channel) : (s.updChannel n f).raised = s.raised := rfl
@[simp] theorem updChannel_phase (n : Nat) (f : Channel → Channel) : (s.updChannel n f).phase = s.phase := rfl
@[simp] theorem updChannel_startCause (n : Nat) (f : Channel → Channel) : (s.updChannel n f).startCause = s.startCause := rfl
@[simp] theorem updChannel_ports (n : Nat) (f : Channel → Channel) : (s.updChannel n f).ports = s.ports := rfl
@[simp] theorem updChannel_store (n : Nat) (f : Channel → Channel) : (s.updChannel n f).store = s.store := rfl
@[simp] theorem updChannel_log (n : Nat) (f : Channel → Channel) : (s.updChannel n f).log = s.log := rfl
@[simp] theorem updChannel_time (n : Nat) (f : Channel → Channel) : (s.updChannel n f).time = s.time := rfl
@[simp] theorem updChannel_link (n : Nat) (f : Channel → Channel) : (s.updChannel n f).link = s.link := rfl
@[simp] theorem updChannel_handler (n : Nat) (f : Channel → Channel) : (s.updChannel n f).handler = s.handler := rfl
@[simp] theorem updChannel_bcast (n : Nat) (f : Channel → Channel) : (s.updChannel n f).bcast = s.bcast := rfl
@[simp] theorem updChannel_catch_ (n : Nat) (f : Channel → Channel) : (s.updChannel n f).catch_ = s.catch_ := rfl
@[simp] theorem updChannel_distress (n : Nat) (f : Channel → Channel) : (s.updChannel n f).distress = s.distress := rfl
@[simp] theorem updChannel_arb (n : Nat) (f : Channel → Channel) : (s.updChannel n f).arb = s.arb := rfl
@[simp] theorem updChannel_main (n : Nat) (f : Channel → Channel) : (s.updChannel n f).main = s.main := rfl
@[simp] theorem updChannel_watch (n : Nat) (f : Channel → Channel) : (s.updChannel n f).watch = s.watch := rfl
@[simp] theorem updChannel_ctl (n : Nat) (f : Channel → Channel) : (s.updChannel n f).ctl = s.ctl := rfl
@[simp] theorem updChannel_mainPath (n : Nat) (f : Channel → Channel) : (s.updChannel n f).mainPath = s.mainPath := rfl
@[simp] theorem updChannel_watchPath (n : Nat) (f : Channel → Channel) : (s.updChannel n f).watchPath = s.watchPath := rfl
@[simp] theorem updChannel_controlRx (n : Nat) (f : Channel → Channel) : (s.updChannel n f).controlRx = s.controlRx := rfl
@[simp] theorem updChannel_navRx (n : Nat) (f : Channel → Channel) : (s.updChannel n f).navRx = s.navRx := rfl
@[simp] theorem updChannel_settings (n : Nat) (f : Channel → Channel) : (s.updChannel n f).settings = s.settings := rfl

/-! ### A control command becomes due -/

@[simp] theorem command_pending (r : Radio) (k : ControlKind) (tx rx : Nat) : (s.command r k tx rx).pending = s.pending := rfl
@[simp] theorem command_msgs (r : Radio) (k : ControlKind) (tx rx : Nat) : (s.command r k tx rx).msgs = s.msgs := rfl
@[simp] theorem command_raised (r : Radio) (k : ControlKind) (tx rx : Nat) : (s.command r k tx rx).raised = s.raised := rfl
@[simp] theorem command_phase (r : Radio) (k : ControlKind) (tx rx : Nat) : (s.command r k tx rx).phase = s.phase := rfl
@[simp] theorem command_startCause (r : Radio) (k : ControlKind) (tx rx : Nat) : (s.command r k tx rx).startCause = s.startCause := rfl
@[simp] theorem command_ports (r : Radio) (k : ControlKind) (tx rx : Nat) : (s.command r k tx rx).ports = s.ports := rfl
@[simp] theorem command_store (r : Radio) (k : ControlKind) (tx rx : Nat) : (s.command r k tx rx).store = s.store := rfl
@[simp] theorem command_log (r : Radio) (k : ControlKind) (tx rx : Nat) : (s.command r k tx rx).log = s.log := rfl
@[simp] theorem command_dir (r : Radio) (k : ControlKind) (tx rx : Nat) : (s.command r k tx rx).dir = s.dir := rfl
@[simp] theorem command_time (r : Radio) (k : ControlKind) (tx rx : Nat) : (s.command r k tx rx).time = s.time := rfl
@[simp] theorem command_link (r : Radio) (k : ControlKind) (tx rx : Nat) : (s.command r k tx rx).link = s.link := rfl
@[simp] theorem command_handler (r : Radio) (k : ControlKind) (tx rx : Nat) : (s.command r k tx rx).handler = s.handler := rfl
@[simp] theorem command_bcast (r : Radio) (k : ControlKind) (tx rx : Nat) : (s.command r k tx rx).bcast = s.bcast := rfl
@[simp] theorem command_catch_ (r : Radio) (k : ControlKind) (tx rx : Nat) : (s.command r k tx rx).catch_ = s.catch_ := rfl
@[simp] theorem command_distress (r : Radio) (k : ControlKind) (tx rx : Nat) : (s.command r k tx rx).distress = s.distress := rfl
@[simp] theorem command_arb (r : Radio) (k : ControlKind) (tx rx : Nat) : (s.command r k tx rx).arb = s.arb := rfl
@[simp] theorem command_main (r : Radio) (k : ControlKind) (tx rx : Nat) : (s.command r k tx rx).main = s.main := rfl
@[simp] theorem command_watch (r : Radio) (k : ControlKind) (tx rx : Nat) : (s.command r k tx rx).watch = s.watch := rfl
@[simp] theorem command_mainPath (r : Radio) (k : ControlKind) (tx rx : Nat) : (s.command r k tx rx).mainPath = s.mainPath := rfl
@[simp] theorem command_watchPath (r : Radio) (k : ControlKind) (tx rx : Nat) : (s.command r k tx rx).watchPath = s.watchPath := rfl
@[simp] theorem command_controlRx (r : Radio) (k : ControlKind) (tx rx : Nat) : (s.command r k tx rx).controlRx = s.controlRx := rfl
@[simp] theorem command_navRx (r : Radio) (k : ControlKind) (tx rx : Nat) : (s.command r k tx rx).navRx = s.navRx := rfl
@[simp] theorem command_settings (r : Radio) (k : ControlKind) (tx rx : Nat) : (s.command r k tx rx).settings = s.settings := rfl

/-! ### A log entry is written -/

@[simp] theorem logWrite_pending (k : LogKind) (p c : Nat) : (s.logWrite k p c).pending = s.pending := rfl
@[simp] theorem logWrite_msgs (k : LogKind) (p c : Nat) : (s.logWrite k p c).msgs = s.msgs := rfl
@[simp] theorem logWrite_raised (k : LogKind) (p c : Nat) : (s.logWrite k p c).raised = s.raised ++ [.logAdvanced] := rfl
@[simp] theorem logWrite_phase (k : LogKind) (p c : Nat) : (s.logWrite k p c).phase = s.phase := rfl
@[simp] theorem logWrite_startCause (k : LogKind) (p c : Nat) : (s.logWrite k p c).startCause = s.startCause := rfl
@[simp] theorem logWrite_ports (k : LogKind) (p c : Nat) : (s.logWrite k p c).ports = s.ports := rfl
@[simp] theorem logWrite_store (k : LogKind) (p c : Nat) : (s.logWrite k p c).store = s.store := rfl
@[simp] theorem logWrite_dir (k : LogKind) (p c : Nat) : (s.logWrite k p c).dir = s.dir := rfl
@[simp] theorem logWrite_time (k : LogKind) (p c : Nat) : (s.logWrite k p c).time = s.time := rfl
@[simp] theorem logWrite_link (k : LogKind) (p c : Nat) : (s.logWrite k p c).link = s.link := rfl
@[simp] theorem logWrite_handler (k : LogKind) (p c : Nat) : (s.logWrite k p c).handler = s.handler := rfl
@[simp] theorem logWrite_bcast (k : LogKind) (p c : Nat) : (s.logWrite k p c).bcast = s.bcast := rfl
@[simp] theorem logWrite_catch_ (k : LogKind) (p c : Nat) : (s.logWrite k p c).catch_ = s.catch_ := rfl
@[simp] theorem logWrite_distress (k : LogKind) (p c : Nat) : (s.logWrite k p c).distress = s.distress := rfl
@[simp] theorem logWrite_arb (k : LogKind) (p c : Nat) : (s.logWrite k p c).arb = s.arb := rfl
@[simp] theorem logWrite_main (k : LogKind) (p c : Nat) : (s.logWrite k p c).main = s.main := rfl
@[simp] theorem logWrite_watch (k : LogKind) (p c : Nat) : (s.logWrite k p c).watch = s.watch := rfl
@[simp] theorem logWrite_ctl (k : LogKind) (p c : Nat) : (s.logWrite k p c).ctl = s.ctl := rfl
@[simp] theorem logWrite_mainPath (k : LogKind) (p c : Nat) : (s.logWrite k p c).mainPath = s.mainPath := rfl
@[simp] theorem logWrite_watchPath (k : LogKind) (p c : Nat) : (s.logWrite k p c).watchPath = s.watchPath := rfl
@[simp] theorem logWrite_controlRx (k : LogKind) (p c : Nat) : (s.logWrite k p c).controlRx = s.controlRx := rfl
@[simp] theorem logWrite_navRx (k : LogKind) (p c : Nat) : (s.logWrite k p c).navRx = s.navRx := rfl
@[simp] theorem logWrite_settings (k : LogKind) (p c : Nat) : (s.logWrite k p c).settings = s.settings := rfl

/-! ### A log entry is completed -/

@[simp] theorem logComplete_pending (n : Half) (o : LogOutcome) (m e : Option Nat) : (s.logComplete n o m e).pending = s.pending := rfl
@[simp] theorem logComplete_msgs (n : Half) (o : LogOutcome) (m e : Option Nat) : (s.logComplete n o m e).msgs = s.msgs := rfl
@[simp] theorem logComplete_raised (n : Half) (o : LogOutcome) (m e : Option Nat) : (s.logComplete n o m e).raised = s.raised := rfl
@[simp] theorem logComplete_phase (n : Half) (o : LogOutcome) (m e : Option Nat) : (s.logComplete n o m e).phase = s.phase := rfl
@[simp] theorem logComplete_startCause (n : Half) (o : LogOutcome) (m e : Option Nat) : (s.logComplete n o m e).startCause = s.startCause := rfl
@[simp] theorem logComplete_ports (n : Half) (o : LogOutcome) (m e : Option Nat) : (s.logComplete n o m e).ports = s.ports := rfl
@[simp] theorem logComplete_store (n : Half) (o : LogOutcome) (m e : Option Nat) : (s.logComplete n o m e).store = s.store := rfl
@[simp] theorem logComplete_dir (n : Half) (o : LogOutcome) (m e : Option Nat) : (s.logComplete n o m e).dir = s.dir := rfl
@[simp] theorem logComplete_time (n : Half) (o : LogOutcome) (m e : Option Nat) : (s.logComplete n o m e).time = s.time := rfl
@[simp] theorem logComplete_link (n : Half) (o : LogOutcome) (m e : Option Nat) : (s.logComplete n o m e).link = s.link := rfl
@[simp] theorem logComplete_handler (n : Half) (o : LogOutcome) (m e : Option Nat) : (s.logComplete n o m e).handler = s.handler := rfl
@[simp] theorem logComplete_bcast (n : Half) (o : LogOutcome) (m e : Option Nat) : (s.logComplete n o m e).bcast = s.bcast := rfl
@[simp] theorem logComplete_catch_ (n : Half) (o : LogOutcome) (m e : Option Nat) : (s.logComplete n o m e).catch_ = s.catch_ := rfl
@[simp] theorem logComplete_distress (n : Half) (o : LogOutcome) (m e : Option Nat) : (s.logComplete n o m e).distress = s.distress := rfl
@[simp] theorem logComplete_arb (n : Half) (o : LogOutcome) (m e : Option Nat) : (s.logComplete n o m e).arb = s.arb := rfl
@[simp] theorem logComplete_main (n : Half) (o : LogOutcome) (m e : Option Nat) : (s.logComplete n o m e).main = s.main := rfl
@[simp] theorem logComplete_watch (n : Half) (o : LogOutcome) (m e : Option Nat) : (s.logComplete n o m e).watch = s.watch := rfl
@[simp] theorem logComplete_ctl (n : Half) (o : LogOutcome) (m e : Option Nat) : (s.logComplete n o m e).ctl = s.ctl := rfl
@[simp] theorem logComplete_mainPath (n : Half) (o : LogOutcome) (m e : Option Nat) : (s.logComplete n o m e).mainPath = s.mainPath := rfl
@[simp] theorem logComplete_watchPath (n : Half) (o : LogOutcome) (m e : Option Nat) : (s.logComplete n o m e).watchPath = s.watchPath := rfl
@[simp] theorem logComplete_controlRx (n : Half) (o : LogOutcome) (m e : Option Nat) : (s.logComplete n o m e).controlRx = s.controlRx := rfl
@[simp] theorem logComplete_navRx (n : Half) (o : LogOutcome) (m e : Option Nat) : (s.logComplete n o m e).navRx = s.navRx := rfl
@[simp] theorem logComplete_settings (n : Half) (o : LogOutcome) (m e : Option Nat) : (s.logComplete n o m e).settings = s.settings := rfl

/-! ### An activity of one event -/

@[simp] theorem logMoment_pending (k : LogKind) (p c : Nat) (o : LogOutcome) (m e : Option Nat) : (s.logMoment k p c o m e).pending = s.pending := rfl
@[simp] theorem logMoment_msgs (k : LogKind) (p c : Nat) (o : LogOutcome) (m e : Option Nat) : (s.logMoment k p c o m e).msgs = s.msgs := rfl
@[simp] theorem logMoment_raised (k : LogKind) (p c : Nat) (o : LogOutcome) (m e : Option Nat) : (s.logMoment k p c o m e).raised = s.raised ++ [.logAdvanced] := rfl
@[simp] theorem logMoment_phase (k : LogKind) (p c : Nat) (o : LogOutcome) (m e : Option Nat) : (s.logMoment k p c o m e).phase = s.phase := rfl
@[simp] theorem logMoment_startCause (k : LogKind) (p c : Nat) (o : LogOutcome) (m e : Option Nat) : (s.logMoment k p c o m e).startCause = s.startCause := rfl
@[simp] theorem logMoment_ports (k : LogKind) (p c : Nat) (o : LogOutcome) (m e : Option Nat) : (s.logMoment k p c o m e).ports = s.ports := rfl
@[simp] theorem logMoment_store (k : LogKind) (p c : Nat) (o : LogOutcome) (m e : Option Nat) : (s.logMoment k p c o m e).store = s.store := rfl
@[simp] theorem logMoment_dir (k : LogKind) (p c : Nat) (o : LogOutcome) (m e : Option Nat) : (s.logMoment k p c o m e).dir = s.dir := rfl
@[simp] theorem logMoment_time (k : LogKind) (p c : Nat) (o : LogOutcome) (m e : Option Nat) : (s.logMoment k p c o m e).time = s.time := rfl
@[simp] theorem logMoment_link (k : LogKind) (p c : Nat) (o : LogOutcome) (m e : Option Nat) : (s.logMoment k p c o m e).link = s.link := rfl
@[simp] theorem logMoment_handler (k : LogKind) (p c : Nat) (o : LogOutcome) (m e : Option Nat) : (s.logMoment k p c o m e).handler = s.handler := rfl
@[simp] theorem logMoment_bcast (k : LogKind) (p c : Nat) (o : LogOutcome) (m e : Option Nat) : (s.logMoment k p c o m e).bcast = s.bcast := rfl
@[simp] theorem logMoment_catch_ (k : LogKind) (p c : Nat) (o : LogOutcome) (m e : Option Nat) : (s.logMoment k p c o m e).catch_ = s.catch_ := rfl
@[simp] theorem logMoment_distress (k : LogKind) (p c : Nat) (o : LogOutcome) (m e : Option Nat) : (s.logMoment k p c o m e).distress = s.distress := rfl
@[simp] theorem logMoment_arb (k : LogKind) (p c : Nat) (o : LogOutcome) (m e : Option Nat) : (s.logMoment k p c o m e).arb = s.arb := rfl
@[simp] theorem logMoment_main (k : LogKind) (p c : Nat) (o : LogOutcome) (m e : Option Nat) : (s.logMoment k p c o m e).main = s.main := rfl
@[simp] theorem logMoment_watch (k : LogKind) (p c : Nat) (o : LogOutcome) (m e : Option Nat) : (s.logMoment k p c o m e).watch = s.watch := rfl
@[simp] theorem logMoment_ctl (k : LogKind) (p c : Nat) (o : LogOutcome) (m e : Option Nat) : (s.logMoment k p c o m e).ctl = s.ctl := rfl
@[simp] theorem logMoment_mainPath (k : LogKind) (p c : Nat) (o : LogOutcome) (m e : Option Nat) : (s.logMoment k p c o m e).mainPath = s.mainPath := rfl
@[simp] theorem logMoment_watchPath (k : LogKind) (p c : Nat) (o : LogOutcome) (m e : Option Nat) : (s.logMoment k p c o m e).watchPath = s.watchPath := rfl
@[simp] theorem logMoment_controlRx (k : LogKind) (p c : Nat) (o : LogOutcome) (m e : Option Nat) : (s.logMoment k p c o m e).controlRx = s.controlRx := rfl
@[simp] theorem logMoment_navRx (k : LogKind) (p c : Nat) (o : LogOutcome) (m e : Option Nat) : (s.logMoment k p c o m e).navRx = s.navRx := rfl
@[simp] theorem logMoment_settings (k : LogKind) (p c : Nat) (o : LogOutcome) (m e : Option Nat) : (s.logMoment k p c o m e).settings = s.settings := rfl

end Sys2Proof.Machine
end

