-- ==== Sys2Proof/Laws/Commands.lean ====
section
/-! SUPPORT. Each command in terms of the shared operations, true by definition. -/

namespace Sys2Proof.Machine

theorem exec_powerOn (level1 level2 level3 : BitVec 2) (s : State) :
    exec (.powerOn level1 level2 level3) s =
      .next (s.poweredOn level1 level2 level3) := rfl

theorem exec_loadingEnd (s : State) :
    exec .loadingEnd s =
      event s State.loadingEnds := rfl

theorem exec_create (r : Req) (station precedence : Nat) (s : State) :
    exec (.create r station precedence) s =
      localRequest .create r s fun t => t.takeCreate r.port station precedence := rfl

theorem exec_append (r : Req) (msg : Nat) (bytes : List Byte) (s : State) :
    exec (.append r msg bytes) s =
      localRequest .append r s fun t => t.takeAppend r.port msg bytes := rfl

theorem exec_submit (r : Req) (msg : Nat) (s : State) :
    exec (.submit r msg) s =
      command .submit r s fun t => t.takeSubmit r.port msg := rfl

theorem exec_withdraw (r : Req) (msg : Nat) (s : State) :
    exec (.withdraw r msg) s =
      command .withdraw r s fun t => t.takeWithdraw r.port msg := rfl

theorem exec_delete (r : Req) (msg : Nat) (s : State) :
    exec (.delete r msg) s =
      localRequest .delete r s fun t => t.takeDelete r.port msg := rfl

theorem exec_list (r : Req) (cls state start : Nat) (s : State) :
    exec (.list r cls state start) s =
      query .list r s fun t => t.answerList r.port cls state start := rfl

theorem exec_read (r : Req) (msg offset count : Nat) (s : State) :
    exec (.read r msg offset count) s =
      localRequest .read r s fun t => t.takeRead r.port msg offset count := rfl

theorem exec_keepSet (r : Req) (msg : Nat) (s : State) :
    exec (.keepSet r msg) s =
      localRequest .keepSet r s fun t => t.takeKeep r.port msg true := rfl

theorem exec_keepClear (r : Req) (msg : Nat) (s : State) :
    exec (.keepClear r msg) s =
      localRequest .keepClear r s fun t => t.takeKeep r.port msg false := rfl

theorem exec_readLog (r : Req) (start : Option Half) (s : State) :
    exec (.readLog r start) s =
      localRequest .readLog r s fun t => t.takeReadLog r.port start := rfl

theorem exec_stationSet (r : Req) (entry : Nat) (args : StationArgs) (s : State) :
    exec (.stationSet r entry args) s =
      command .stationSet r s fun t => t.takeStationSet entry args := rfl

theorem exec_stationClear (r : Req) (entry : Nat) (s : State) :
    exec (.stationClear r entry) s =
      command .stationClear r s fun t => t.takeStationClear entry := rfl

theorem exec_stationGet (r : Req) (entry : Nat) (s : State) :
    exec (.stationGet r entry) s =
      query .stationGet r s fun t => t.answerStationGet entry := rfl

theorem exec_holdStation (r : Req) (station : Nat) (s : State) :
    exec (.holdStation r station) s =
      command .holdStation r s fun t => t.takeConsoleHold station true := rfl

theorem exec_releaseStation (r : Req) (station : Nat) (s : State) :
    exec (.releaseStation r station) s =
      command .releaseStation r s fun t => t.takeConsoleHold station false := rfl

theorem exec_channelSet (r : Req) (entry : Nat) (args : ChannelArgs) (s : State) :
    exec (.channelSet r entry args) s =
      command .channelSet r s fun t => t.takeChannelSet entry args := rfl

theorem exec_channelClear (r : Req) (entry : Nat) (s : State) :
    exec (.channelClear r entry) s =
      command .channelClear r s fun t => t.takeChannelClear entry := rfl

theorem exec_channelDisable (r : Req) (entry : Nat) (s : State) :
    exec (.channelDisable r entry) s =
      command .channelDisable r s fun t => t.takeChannelDisable entry := rfl

theorem exec_channelEnable (r : Req) (entry : Nat) (s : State) :
    exec (.channelEnable r entry) s =
      command .channelEnable r s fun t => t.takeChannelEnable entry := rfl

theorem exec_channelGet (r : Req) (entry : Nat) (s : State) :
    exec (.channelGet r entry) s =
      query .channelGet r s fun t => t.answerChannelGet entry := rfl

theorem exec_setTime (r : Req) (value : Time) (s : State) :
    exec (.setTime r value) s =
      command .setTime r s fun t => (t.loadClock value .console, ⟨.ok, .delta (t.stepTo value)⟩) := rfl

theorem exec_position (r : Req) (lat lon : Int) (s : State) :
    exec (.position r lat lon) s =
      localRequest .position r s fun t => t.takePosition lat lon := rfl

theorem exec_areaSet (r : Req) (area : Nat) (args : AreaArgs) (s : State) :
    exec (.areaSet r area args) s =
      localRequest .areaSet r s fun t => t.takeAreaSet area args := rfl

theorem exec_areaClear (r : Req) (area : Nat) (s : State) :
    exec (.areaClear r area) s =
      localRequest .areaClear r s fun t => t.takeAreaClear area := rfl

theorem exec_areaGet (r : Req) (area : Nat) (s : State) :
    exec (.areaGet r area) s =
      query .areaGet r s fun t => t.answerAreaGet area := rfl

theorem exec_fixStatus (r : Req) (s : State) :
    exec (.fixStatus r) s =
      query .fixStatus r s State.answerFixStatus := rfl

theorem exec_callNow (r : Req) (station : Nat) (s : State) :
    exec (.callNow r station) s =
      command .callNow r s fun t => t.takeCallNow station := rfl

theorem exec_watchStation (r : Req) (station : Option Nat) (s : State) :
    exec (.watchStation r station) s =
      command .watchStation r s fun t => t.takeWatchStation station := rfl

theorem exec_acceptSet (r : Req) (code addressing value : Nat) (s : State) :
    exec (.acceptSet r code addressing value) s =
      localRequest .acceptSet r s fun t => t.takeAcceptSet code addressing value := rfl

theorem exec_acceptGet (r : Req) (s : State) :
    exec (.acceptGet r) s =
      query .acceptGet r s fun t => ⟨.ok, .cells t.handler.individual t.handler.collective⟩ := rfl

theorem exec_scheduleSet (r : Req) (entry : Nat) (args : ScheduleArgs) (s : State) :
    exec (.scheduleSet r entry args) s =
      localRequest .scheduleSet r s fun t => t.takeScheduleSet entry args := rfl

theorem exec_scheduleClear (r : Req) (entry : Nat) (s : State) :
    exec (.scheduleClear r entry) s =
      localRequest .scheduleClear r s fun t => t.takeScheduleClear entry := rfl

theorem exec_scheduleGet (r : Req) (entry : Nat) (s : State) :
    exec (.scheduleGet r entry) s =
      query .scheduleGet r s fun t => t.answerScheduleGet entry := rfl

theorem exec_areaWatch (r : Req) (areas : BitVec 32) (s : State) :
    exec (.areaWatch r areas) s =
      localRequest .areaWatch r s fun t => ({ t with time.watchAreas := areasOfBits areas }, ⟨.ok, .areas
        (areasOfBits areas)⟩) := rfl

theorem exec_bulletinRegister (r : Req) (start : Nat) (s : State) :
    exec (.bulletinRegister r start) s =
      localRequest .bulletinRegister r s fun t => t.takeBulletinRegister start := rfl

theorem exec_speciesSet (r : Req) (entry : Nat) (code : List Byte) (quota : Nat) (s : State) :
    exec (.speciesSet r entry code quota) s =
      localRequest .speciesSet r s fun t => t.takeSpeciesSet entry code quota := rfl

theorem exec_speciesClear (r : Req) (entry : Nat) (s : State) :
    exec (.speciesClear r entry) s =
      localRequest .speciesClear r s fun t => t.takeSpeciesClear entry := rfl

theorem exec_speciesGet (r : Req) (entry : Nat) (s : State) :
    exec (.speciesGet r entry) s =
      query .speciesGet r s fun t => t.answerSpeciesGet entry := rfl

theorem exec_factorSet (r : Req) (code : List Byte) (form factor : Nat) (s : State) :
    exec (.factorSet r code form factor) s =
      localRequest .factorSet r s fun t => t.takeFactorSet code form factor := rfl

theorem exec_factorClear (r : Req) (code : List Byte) (form : Nat) (s : State) :
    exec (.factorClear r code form) s =
      localRequest .factorClear r s fun t => t.takeFactorClear code form := rfl

theorem exec_factorGet (r : Req) (start : Nat) (s : State) :
    exec (.factorGet r start) s =
      query .factorGet r s fun t => t.answerFactorGet start := rfl

theorem exec_postCatch (r : Req) (haul : Nat) (code : List Byte) (form weight kind : Nat) (s : State) :
    exec (.postCatch r haul code form weight kind) s =
      localRequest .postCatch r s fun t => t.takePosting haul code form weight kind := rfl

theorem exec_reportTimeSet (r : Req) (minute : Nat) (s : State) :
    exec (.reportTimeSet r minute) s =
      localRequest .reportTimeSet r s fun t => t.takeReportTimeSet minute := rfl

theorem exec_reportNow (r : Req) (s : State) :
    exec (.reportNow r) s =
      command .reportNow r s State.takeReportNow := rfl

theorem exec_tripStart (r : Req) (s : State) :
    exec (.tripStart r) s =
      localRequest .tripStart r s State.takeTripStart := rfl

theorem exec_tally (r : Req) (start : Nat) (s : State) :
    exec (.tally r start) s =
      query .tally r s fun t => t.answerTally start := rfl

theorem exec_distress (r : Req) (nature persons : Nat) (s : State) :
    exec (.distress r nature persons) s =
      command .distress r s fun t => t.takeDistress nature persons := rfl

theorem exec_distressCancel (r : Req) (s : State) :
    exec (.distressCancel r) s =
      command .distressCancel r s State.takeDistressCancel := rfl

theorem exec_distressClose (r : Req) (s : State) :
    exec (.distressClose r) s =
      command .distressClose r s State.takeDistressClose := rfl

theorem exec_alarmAck (r : Req) (serial : Nat) (s : State) :
    exec (.alarmAck r serial) s =
      localRequest .alarmAck r s fun t => t.takeAlarmAck r.port serial := rfl

theorem exec_distressList (r : Req) (s : State) :
    exec (.distressList r) s =
      query .distressList r s fun t => ⟨.ok, .distressList t.distress.own t.distress.alarm t.distress.highest
        t.newEntries (bySerial t.distress.list)⟩ := rfl

theorem exec_radioRestore (r : Req) (s : State) :
    exec (.radioRestore r) s =
      command .radioRestore r s fun t => (t.restoreMain.restoreWatch, ⟨.ok, .restored t.main.inService
        t.watch.inService⟩) := rfl

theorem exec_radioStatus (r : Req) (s : State) :
    exec (.radioStatus r) s =
      query .radioStatus r s State.answerRadioStatus := rfl

theorem exec_grantSet (r : Req) (port : Nat) (map : Half) (s : State) :
    exec (.grantSet r port map) s =
      localRequest .grantSet r s fun t => t.takeGrantSet r.port port map := rfl

theorem exec_distressLevelSet (r : Req) (level : Nat) (s : State) :
    exec (.distressLevelSet r level) s =
      localRequest .distressLevelSet r s fun t => ({ t with settings.distressLevel := min level 3 }, okWith (if 3 <
        level then [.levelClamped] else [])) := rfl

theorem exec_shipSet (r : Req) (number : Nat) (name callSign : List Byte) (s : State) :
    exec (.shipSet r number name callSign) s =
      localRequest .shipSet r s fun t => t.takeShipSet number name callSign := rfl

theorem exec_routeSet (r : Req) (kinds : Half) (s : State) :
    exec (.routeSet r kinds) s =
      localRequest .routeSet r s fun t => (t.updPort r.port (PortState.route kinds), plain .ok) := rfl

theorem exec_poll (r : Req) (s : State) :
    exec (.poll r) s =
      localRequest .poll r s fun t => t.takePoll r.port := rfl

theorem exec_status (r : Req) (s : State) :
    exec (.status r) s =
      localRequest .status r s fun t => (t.updPort r.port PortState.clearFrameError, t.answerStatus r.port) := rfl

theorem exec_saveSettings (r : Req) (s : State) :
    exec (.saveSettings r) s =
      localRequest .saveSettings r s State.takeSaveSettings := rfl

theorem exec_restart (r : Req) (s : State) :
    exec (.restart r) s =
      localRequest .restart r s State.takeRestart := rfl

theorem exec_unknownRequest (r : Req) (kind : Nat) (s : State) :
    exec (.unknownRequest r kind) s =
      query (.other kind) r s fun _ => plain .unknownKind := rfl

theorem exec_badFrame (port : Port) (s : State) :
    exec (.badFrame port) s =
      localEvent s fun t => t.updPort port PortState.badFrame := rfl

theorem exec_consoleInterByteTimeout (port : Port) (s : State) :
    exec (.consoleInterByteTimeout port) s =
      localEvent s fun t => t.updPort port PortState.gap := rfl

theorem exec_outputFrameSent (port : Port) (s : State) :
    exec (.outputFrameSent port) s =
      localEvent s fun t => t.updPort port PortState.frameSent := rfl

theorem exec_callBurst (path : Path) (station ship purpose waiting : Nat) (s : State) :
    exec (.callBurst path station ship purpose waiting) s =
      event s fun t => t.hear path (onMain path fun u => u.hearCall station ship) := rfl

theorem exec_acceptBurst (path : Path) (station ship : Nat) (s : State) :
    exec (.acceptBurst path station ship) s =
      event s fun t => t.hear path (onMain path fun u => u.hearAccept station ship) := rfl

theorem exec_rejectBurst (path : Path) (station ship reason : Nat) (s : State) :
    exec (.rejectBurst path station ship reason) s =
      event s fun t => t.hear path (onMain path fun u => u.hearReject station ship) := rfl

theorem exec_volleyBurst (path : Path) (header : RxHeader) (frames : List RxFrame) (s : State) :
    exec (.volleyBurst path header frames) s =
      event s fun t => t.hear path (onMain path fun u => u.hearVolley header frames) := rfl

theorem exec_tallyBurst (path : Path) (tally : RxTally) (s : State) :
    exec (.tallyBurst path tally) s =
      event s fun t => t.hear path (onMain path fun u => u.hearTally tally) := rfl

theorem exec_clearBurst (path : Path) (reason : Nat) (s : State) :
    exec (.clearBurst path reason) s =
      event s fun t => t.hear path (onMain path fun u => u.hearClear (ClearReason.ofCode reason)) := rfl

theorem exec_collectiveBurst (path : Path) (c : RxCollective) (kind : Nat) (s : State) :
    exec (.collectiveBurst path c kind) s =
      event s fun t => t.hear path (onMain path fun u => u.readFrame c kind) := rfl

theorem exec_collectiveDirectiveBurst (path : Path) (c : RxCollective) (s : State) :
    exec (.collectiveDirectiveBurst path c) s =
      event s fun t => t.hear path fun u => onMain path (fun v => v.readFrame c directiveType) (u.checkDirective path
        c) := rfl

theorem exec_alertBurst (path : Path) (a : RxAlert) (s : State) :
    exec (.alertBurst path a) s =
      event s fun t => t.hear path fun u => u.hearAlert path a := rfl

theorem exec_badBurst (path : Path) (s : State) :
    exec (.badBurst path) s =
      localEvent s fun t => t.hear path id := rfl

theorem exec_carrierDrop (path : Path) (cut : CutBurst) (s : State) :
    exec (.carrierDrop path cut) s =
      event s fun t => t.hear path (onMain path fun u => u.hearCut cut) := rfl

theorem exec_mainTuneAnswer (check : Bool) (tag : BitVec 8) (result : Nat) (s : State) :
    exec (.mainTuneAnswer check tag result) s =
      event s fun t => if answers check tag t.main.flight then t.answerEnds.endMainTune (result == 0) else
        t.answerEnds := rfl

theorem exec_watchTuneAnswer (check : Bool) (tag : BitVec 8) (result : Nat) (s : State) :
    exec (.watchTuneAnswer check tag result) s =
      localEvent s fun t => if answers check tag t.watch.flight then t.answerEnds.endWatchTune (result == 0) else
        t.answerEnds := rfl

theorem exec_linkInterByteTimeout (input : LinkInput) (s : State) :
    exec (.linkInterByteTimeout input) s =
      localEvent s fun t => t.setLinkRx input .searching := rfl

theorem exec_controlCommandSent (s : State) :
    exec .controlCommandSent s =
      localEvent s State.endCommand := rfl

theorem exec_positionRecord (check : Bool) (mark : Nat) (lat lon : Int) (s : State) :
    exec (.positionRecord check mark lat lon) s =
      localEvent s fun t => t.takeRecordedFix check mark lat lon := rfl

theorem exec_distressLineAsserted (s : State) :
    exec .distressLineAsserted s =
      if s.phase = .off then .next (s.lineSet true) else localEvent s State.lineAsserted := rfl

theorem exec_distressLineReleased (s : State) :
    exec .distressLineReleased s =
      if s.phase = .off then .next (s.lineSet false) else localEvent s State.lineReleased := rfl

theorem exec_holdTimerExpiry (s : State) :
    exec .holdTimerExpiry s =
      event s fun t => t.expire t.distress.holdTimer State.holdExpired := rfl

theorem exec_granted (s : State) :
    exec .granted s =
      event s State.takeGranted := rfl

theorem exec_alertListenSlotExpiry (s : State) :
    exec .alertListenSlotExpiry s =
      event s fun t => t.expire t.distress.slot State.slotExpired := rfl

theorem exec_alertCycleWaitExpiry (s : State) :
    exec .alertCycleWaitExpiry s =
      event s fun t => t.expire t.distress.nextCycle State.cycleExpired := rfl

theorem exec_nextCallTimeExpiry (entry : Nat) (s : State) :
    exec (.nextCallTimeExpiry entry) s =
      event s fun t => t.expire (t.callTimer entry) fun u => u.callTimeExpired entry := rfl

theorem exec_listenWindowExpiry (s : State) :
    exec .listenWindowExpiry s =
      event s fun t => t.expire (t.link.round.bind (·.listen)) State.listenExpired := rfl

theorem exec_quarterHour (s : State) :
    exec .quarterHour s =
      event s fun t => if t.holds_ .watch then t.quarterHour else t := rfl

theorem exec_awaitFirstWaitExpiry (s : State) :
    exec .awaitFirstWaitExpiry s =
      event s fun t => t.expire (t.link.await.bind (·.wait)) State.awaitExpired := rfl

theorem exec_tallyWindowExpiry (s : State) :
    exec .tallyWindowExpiry s =
      event s fun t => t.expire (t.link.session.bind (·.tallyWin)) State.tallyMissed := rfl

theorem exec_clearingWaitExpiry (s : State) :
    exec .clearingWaitExpiry s =
      event s fun t => t.expire (t.link.session.bind (·.clearWait)) fun u => u.sendClear .done := rfl

theorem exec_receiveWindowExpiry (s : State) :
    exec .receiveWindowExpiry s =
      event s fun t => t.expire (t.link.session.bind (·.receiveWin)) fun u => u.volleyMissed false := rfl

theorem exec_silenceEnd (s : State) :
    exec .silenceEnd s =
      event s fun t => t.expire (t.handler.silence.map (·.endTime)) fun u => u.endSilence .expired := rfl

theorem exec_scheduleEntryDue (entry : Nat) (s : State) :
    exec (.scheduleEntryDue entry) s =
      event s fun t => if t.phase = .running then t.scheduleComes entry else t := rfl

theorem exec_windowEnd (entry : Nat) (s : State) :
    exec (.windowEnd entry) s =
      event s fun t =>
        match t.window entry with
        | none => t
        | some w => t.expire (some w.endTime) fun u => u.windowEnded w := rfl

theorem exec_reportTimeDue (s : State) :
    exec .reportTimeDue s =
      event s fun t => if t.phase = .running then (t.waitCalendar t.catch_.reportTime t.catch_.reportTaken).reportDue
        else t := rfl

theorem exec_retryTimerExpiry (s : State) :
    exec .retryTimerExpiry s =
      event s fun t => t.expire t.catch_.deferral State.retryExpired := rfl

theorem exec_overdueTimerExpiry (msg : Nat) (s : State) :
    exec (.overdueTimerExpiry msg) s =
      event s fun t => t.expire (t.catch_.overdue.find msg) fun u => u.overdueExpired msg := rfl

theorem exec_tallyWriteEnd (result : WriteResult) (s : State) :
    exec (.tallyWriteEnd result) s =
      localEvent s fun t => t.tallyWritten result := rfl

theorem exec_settingsWriteEnd (result : WriteResult) (s : State) :
    exec (.settingsWriteEnd result) s =
      localEvent s fun t => t.settingsWritten result := rfl

theorem exec_positionAgeExpiry (s : State) :
    exec .positionAgeExpiry s =
      localEvent s fun t => t.expire t.ageTimer State.positionStale := rfl

theorem exec_mainTuneTimerExpiry (s : State) :
    exec .mainTuneTimerExpiry s =
      event s fun t => t.expire (t.main.flight.bind (·.timer)) fun u => u.endMainTune false := rfl

theorem exec_watchTuneTimerExpiry (s : State) :
    exec .watchTuneTimerExpiry s =
      localEvent s fun t => t.expire (t.watch.flight.bind (·.timer)) fun u => u.endWatchTune false := rfl

theorem exec_dwellExpiry (s : State) :
    exec .dwellExpiry s =
      localEvent s fun t => t.expire (t.dwellTimer .dwelling) State.dwellEnded := rfl

theorem exec_idleDwellExpiry (s : State) :
    exec .idleDwellExpiry s =
      localEvent s fun t => t.expire (t.dwellTimer .idleDwell) State.dwellEnded := rfl

theorem exec_keyUpTimeExpiry (s : State) :
    exec .keyUpTimeExpiry s =
      localEvent s State.keyUpEnded := rfl

theorem exec_burstEnd (s : State) :
    exec .burstEnd s =
      event s State.endBurst := rfl

theorem exec_syncWordMatch (path : Path) (s : State) :
    exec (.syncWordMatch path) s =
      localEvent s fun t => if t.pathHeld path then t else t.setPath path .reading := rfl

theorem exec_undefinedBurstKind (path : Path) (s : State) :
    exec (.undefinedBurstKind path) s =
      localEvent s fun t => t.setPath path .searching := rfl

theorem exec_consoleStartByte (port : Port) (s : State) :
    exec (.consoleStartByte port) s =
      localEvent s fun t => t.updPort port PortState.startByte := rfl

theorem exec_huntingByteDiscarded (port : Port) (s : State) :
    exec (.huntingByteDiscarded port) s =
      localEvent s fun t => t.updPort port PortState.discard := rfl

theorem exec_linkStartByte (input : LinkInput) (s : State) :
    exec (.linkStartByte input) s =
      localEvent s fun t => t.setLinkRx input .reading := rfl

theorem exec_powerLoss (s : State) :
    exec .powerLoss s =
      .next s.powerLost := rfl

theorem query_eq (k : ReqKind) (r : Req) (s : State) (f : State → Answer) :
    query k r s f = requestWith id k r s fun t => (t, f t) := rfl

/-- A request command is a request of its kind; its effects are worked off by its own block or by all blocks. -/
theorem exec_request {c : Instr} {k : ReqKind} {r : Req} (s : State) (h : requestOf c = some (k, r)) :
    ∃ work f, (work = id ∨ work = State.work) ∧ exec c s = requestWith work k r s f := by
  cases c <;> simp only [requestOf, Option.some.injEq, Prod.mk.injEq, reduceCtorEq] at h <;> obtain ⟨rfl, rfl⟩ := h

  case create => exact ⟨_, _, .inl rfl, exec_create ..⟩
  case append => exact ⟨_, _, .inl rfl, exec_append ..⟩
  case submit => exact ⟨_, _, .inr rfl, exec_submit ..⟩
  case withdraw => exact ⟨_, _, .inr rfl, exec_withdraw ..⟩
  case delete => exact ⟨_, _, .inl rfl, exec_delete ..⟩
  case list => exact ⟨_, _, .inl rfl, (exec_list ..).trans (query_eq ..)⟩
  case read => exact ⟨_, _, .inl rfl, exec_read ..⟩
  case keepSet => exact ⟨_, _, .inl rfl, exec_keepSet ..⟩
  case keepClear => exact ⟨_, _, .inl rfl, exec_keepClear ..⟩
  case readLog => exact ⟨_, _, .inl rfl, exec_readLog ..⟩
  case stationSet => exact ⟨_, _, .inr rfl, exec_stationSet ..⟩
  case stationClear => exact ⟨_, _, .inr rfl, exec_stationClear ..⟩
  case stationGet => exact ⟨_, _, .inl rfl, (exec_stationGet ..).trans (query_eq ..)⟩
  case holdStation => exact ⟨_, _, .inr rfl, exec_holdStation ..⟩
  case releaseStation => exact ⟨_, _, .inr rfl, exec_releaseStation ..⟩
  case channelSet => exact ⟨_, _, .inr rfl, exec_channelSet ..⟩
  case channelClear => exact ⟨_, _, .inr rfl, exec_channelClear ..⟩
  case channelDisable => exact ⟨_, _, .inr rfl, exec_channelDisable ..⟩
  case channelEnable => exact ⟨_, _, .inr rfl, exec_channelEnable ..⟩
  case channelGet => exact ⟨_, _, .inl rfl, (exec_channelGet ..).trans (query_eq ..)⟩
  case setTime => exact ⟨_, _, .inr rfl, exec_setTime ..⟩
  case position => exact ⟨_, _, .inl rfl, exec_position ..⟩
  case areaSet => exact ⟨_, _, .inl rfl, exec_areaSet ..⟩
  case areaClear => exact ⟨_, _, .inl rfl, exec_areaClear ..⟩
  case areaGet => exact ⟨_, _, .inl rfl, (exec_areaGet ..).trans (query_eq ..)⟩
  case fixStatus => exact ⟨_, _, .inl rfl, (exec_fixStatus ..).trans (query_eq ..)⟩
  case callNow => exact ⟨_, _, .inr rfl, exec_callNow ..⟩
  case watchStation => exact ⟨_, _, .inr rfl, exec_watchStation ..⟩
  case acceptSet => exact ⟨_, _, .inl rfl, exec_acceptSet ..⟩
  case acceptGet => exact ⟨_, _, .inl rfl, (exec_acceptGet ..).trans (query_eq ..)⟩
  case scheduleSet => exact ⟨_, _, .inl rfl, exec_scheduleSet ..⟩
  case scheduleClear => exact ⟨_, _, .inl rfl, exec_scheduleClear ..⟩
  case scheduleGet => exact ⟨_, _, .inl rfl, (exec_scheduleGet ..).trans (query_eq ..)⟩
  case areaWatch => exact ⟨_, _, .inl rfl, exec_areaWatch ..⟩
  case bulletinRegister => exact ⟨_, _, .inl rfl, exec_bulletinRegister ..⟩
  case speciesSet => exact ⟨_, _, .inl rfl, exec_speciesSet ..⟩
  case speciesClear => exact ⟨_, _, .inl rfl, exec_speciesClear ..⟩
  case speciesGet => exact ⟨_, _, .inl rfl, (exec_speciesGet ..).trans (query_eq ..)⟩
  case factorSet => exact ⟨_, _, .inl rfl, exec_factorSet ..⟩
  case factorClear => exact ⟨_, _, .inl rfl, exec_factorClear ..⟩
  case factorGet => exact ⟨_, _, .inl rfl, (exec_factorGet ..).trans (query_eq ..)⟩
  case postCatch => exact ⟨_, _, .inl rfl, exec_postCatch ..⟩
  case reportTimeSet => exact ⟨_, _, .inl rfl, exec_reportTimeSet ..⟩
  case reportNow => exact ⟨_, _, .inr rfl, exec_reportNow ..⟩
  case tripStart => exact ⟨_, _, .inl rfl, exec_tripStart ..⟩
  case tally => exact ⟨_, _, .inl rfl, (exec_tally ..).trans (query_eq ..)⟩
  case distress => exact ⟨_, _, .inr rfl, exec_distress ..⟩
  case distressCancel => exact ⟨_, _, .inr rfl, exec_distressCancel ..⟩
  case distressClose => exact ⟨_, _, .inr rfl, exec_distressClose ..⟩
  case alarmAck => exact ⟨_, _, .inl rfl, exec_alarmAck ..⟩
  case distressList => exact ⟨_, _, .inl rfl, (exec_distressList ..).trans (query_eq ..)⟩
  case radioRestore => exact ⟨_, _, .inr rfl, exec_radioRestore ..⟩
  case radioStatus => exact ⟨_, _, .inl rfl, (exec_radioStatus ..).trans (query_eq ..)⟩
  case grantSet => exact ⟨_, _, .inl rfl, exec_grantSet ..⟩
  case distressLevelSet => exact ⟨_, _, .inl rfl, exec_distressLevelSet ..⟩
  case shipSet => exact ⟨_, _, .inl rfl, exec_shipSet ..⟩
  case routeSet => exact ⟨_, _, .inl rfl, exec_routeSet ..⟩
  case poll => exact ⟨_, _, .inl rfl, exec_poll ..⟩
  case status => exact ⟨_, _, .inl rfl, exec_status ..⟩
  case saveSettings => exact ⟨_, _, .inl rfl, exec_saveSettings ..⟩
  case restart => exact ⟨_, _, .inl rfl, exec_restart ..⟩
  case unknownRequest => exact ⟨_, _, .inl rfl, (exec_unknownRequest ..).trans (query_eq ..)⟩

/-- Every other command is an event, but for power and the distress line. -/
theorem exec_event {c : Instr} (s : State) (h : requestOf c = none) (on : ∀ a b d, c ≠ .powerOn a b d)
    (off : c ≠ .powerLoss) (press : c ≠ .distressLineAsserted) (free : c ≠ .distressLineReleased) :
    ∃ f, exec c s = localEvent s f := by
  cases c <;> simp only [requestOf, reduceCtorEq] at h
  case powerOn => exact absurd rfl (on _ _ _)
  case powerLoss => exact absurd rfl off
  case distressLineAsserted => exact absurd rfl press
  case distressLineReleased => exact absurd rfl free
  case loadingEnd => exact ⟨_, exec_loadingEnd ..⟩
  case badFrame => exact ⟨_, exec_badFrame ..⟩
  case consoleInterByteTimeout => exact ⟨_, exec_consoleInterByteTimeout ..⟩
  case outputFrameSent => exact ⟨_, exec_outputFrameSent ..⟩
  case callBurst => exact ⟨_, exec_callBurst ..⟩
  case acceptBurst => exact ⟨_, exec_acceptBurst ..⟩
  case rejectBurst => exact ⟨_, exec_rejectBurst ..⟩
  case volleyBurst => exact ⟨_, exec_volleyBurst ..⟩
  case tallyBurst => exact ⟨_, exec_tallyBurst ..⟩
  case clearBurst => exact ⟨_, exec_clearBurst ..⟩
  case collectiveBurst => exact ⟨_, exec_collectiveBurst ..⟩
  case collectiveDirectiveBurst => exact ⟨_, exec_collectiveDirectiveBurst ..⟩
  case alertBurst => exact ⟨_, exec_alertBurst ..⟩
  case badBurst => exact ⟨_, exec_badBurst ..⟩
  case carrierDrop => exact ⟨_, exec_carrierDrop ..⟩
  case mainTuneAnswer => exact ⟨_, exec_mainTuneAnswer ..⟩
  case watchTuneAnswer => exact ⟨_, exec_watchTuneAnswer ..⟩
  case linkInterByteTimeout => exact ⟨_, exec_linkInterByteTimeout ..⟩
  case controlCommandSent => exact ⟨_, exec_controlCommandSent ..⟩
  case positionRecord => exact ⟨_, exec_positionRecord ..⟩
  case holdTimerExpiry => exact ⟨_, exec_holdTimerExpiry ..⟩
  case granted => exact ⟨_, exec_granted ..⟩
  case alertListenSlotExpiry => exact ⟨_, exec_alertListenSlotExpiry ..⟩
  case alertCycleWaitExpiry => exact ⟨_, exec_alertCycleWaitExpiry ..⟩
  case nextCallTimeExpiry => exact ⟨_, exec_nextCallTimeExpiry ..⟩
  case listenWindowExpiry => exact ⟨_, exec_listenWindowExpiry ..⟩
  case quarterHour => exact ⟨_, exec_quarterHour ..⟩
  case awaitFirstWaitExpiry => exact ⟨_, exec_awaitFirstWaitExpiry ..⟩
  case tallyWindowExpiry => exact ⟨_, exec_tallyWindowExpiry ..⟩
  case clearingWaitExpiry => exact ⟨_, exec_clearingWaitExpiry ..⟩
  case receiveWindowExpiry => exact ⟨_, exec_receiveWindowExpiry ..⟩
  case silenceEnd => exact ⟨_, exec_silenceEnd ..⟩
  case scheduleEntryDue => exact ⟨_, exec_scheduleEntryDue ..⟩
  case windowEnd => exact ⟨_, exec_windowEnd ..⟩
  case reportTimeDue => exact ⟨_, exec_reportTimeDue ..⟩
  case retryTimerExpiry => exact ⟨_, exec_retryTimerExpiry ..⟩
  case overdueTimerExpiry => exact ⟨_, exec_overdueTimerExpiry ..⟩
  case tallyWriteEnd => exact ⟨_, exec_tallyWriteEnd ..⟩
  case settingsWriteEnd => exact ⟨_, exec_settingsWriteEnd ..⟩
  case positionAgeExpiry => exact ⟨_, exec_positionAgeExpiry ..⟩
  case mainTuneTimerExpiry => exact ⟨_, exec_mainTuneTimerExpiry ..⟩
  case watchTuneTimerExpiry => exact ⟨_, exec_watchTuneTimerExpiry ..⟩
  case dwellExpiry => exact ⟨_, exec_dwellExpiry ..⟩
  case idleDwellExpiry => exact ⟨_, exec_idleDwellExpiry ..⟩
  case keyUpTimeExpiry => exact ⟨_, exec_keyUpTimeExpiry ..⟩
  case burstEnd => exact ⟨_, exec_burstEnd ..⟩
  case syncWordMatch => exact ⟨_, exec_syncWordMatch ..⟩
  case undefinedBurstKind => exact ⟨_, exec_undefinedBurstKind ..⟩
  case consoleStartByte => exact ⟨_, exec_consoleStartByte ..⟩
  case huntingByteDiscarded => exact ⟨_, exec_huntingByteDiscarded ..⟩
  case linkStartByte => exact ⟨_, exec_linkStartByte ..⟩

end Sys2Proof.Machine
end

