-- ==== Sys2Proof/Laws/Frame.lean ====
section
/-! SUPPORT. What the exchange of messages between blocks leaves alone. `calm` erases from a state all that the link engine,
the windows, the alert cycle and the radio change of their own accord; `frame` erases the message store as well. -/

set_option linter.unusedSimpArgs false

namespace Sys2Proof.Machine

theorem frame_of_calm {s t : State} (h : t.calm = s.calm) : t.frame = s.frame := by simp only [State.frame, h]

theorem mild_of_calm {s t : State} (h : t.calm = s.calm) (hs : s.msgs.all Msg.mild = true) :
    t.msgs.all Msg.mild = true := by
  have e : t.msgs.filter (fun m => !m.mild) = s.msgs.filter (fun m => !m.mild) := congrArg State.msgs h
  have z : s.msgs.filter (fun m => !m.mild) = [] := by simpa [List.filter_eq_nil_iff] using hs
  rw [z] at e
  simpa [List.filter_eq_nil_iff] using e

variable (s : State)

/-- An update of what `calm` erases. -/
theorem upd_calm (r : List Notice) (lo : TrafficLog) (d : Directory) (tm : TimeUnit) (l : LinkEngine) (b : Broadcast)
    (di : Distress) (a : Arbiter) (m : MainRadio) (c : ControlLink)
    (hd : d.stations.mapVals Station.calm = s.dir.stations.mapVals Station.calm) (hc : d.channels = s.dir.channels)
    (ht1 : tm.now = s.time.now) (ht2 : tm.source = s.time.source) (ht3 : tm.fix = s.time.fix)
    (ht4 : tm.areas = s.time.areas) (ht5 : tm.areaSet = s.time.areaSet) (ht6 : tm.watchAreas = s.time.watchAreas)
    (hl : l.watchStation = s.link.watchStation) (hb : b.schedule = s.bcast.schedule)
    (hr : b.register = s.bcast.register) (hd1 : di.nature = s.distress.nature)
    (hd2 : di.persons = s.distress.persons) (hd3 : di.started = s.distress.started)
    (hd4 : di.ackStation = s.distress.ackStation) (hd5 : di.line = s.distress.line)
    (hd6 : di.holdTimer = s.distress.holdTimer) (hd7 : di.list = s.distress.list)
    (hd8 : di.alarm = s.distress.alarm) (hd9 : di.highest = s.distress.highest)
    (hd10 : di.alarmLine = s.distress.alarmLine) :
    ({ s with
      raised := r, log := lo, dir := d, time := tm, link := l, bcast := b, distress := di, arb := a, main := m
      ctl := c } : State).calm = s.calm := by
  simp only [State.calm, hd, hc, hl, hb, hr, Distress.calm, TimeUnit.calm, hd1, hd2, hd3, hd4, hd5, hd6, hd7, hd8, hd9, hd10, ht1, ht2, ht3, ht4,
    ht5, ht6]

/-- An update of what `frame` erases. -/
theorem upd_frame (ms : List Msg) (r : List Notice) (st : Store) (lo : TrafficLog) (d : Directory) (tm : TimeUnit)
    (l : LinkEngine) (b : Broadcast) (k : Catch) (di : Distress) (a : Arbiter) (m : MainRadio) (c : ControlLink)
    (hd : d.stations.mapVals Station.calm = s.dir.stations.mapVals Station.calm) (hc : d.channels = s.dir.channels)
    (ht1 : tm.now = s.time.now) (ht2 : tm.source = s.time.source) (ht3 : tm.fix = s.time.fix)
    (ht4 : tm.areas = s.time.areas) (ht5 : tm.areaSet = s.time.areaSet) (ht6 : tm.watchAreas = s.time.watchAreas)
    (hl : l.watchStation = s.link.watchStation) (hb : b.schedule = s.bcast.schedule)
    (hk : { k with overdue := [] } = { s.catch_ with overdue := [] }) (hd1 : di.nature = s.distress.nature)
    (hd2 : di.persons = s.distress.persons) (hd3 : di.started = s.distress.started)
    (hd4 : di.ackStation = s.distress.ackStation) (hd5 : di.line = s.distress.line)
    (hd6 : di.holdTimer = s.distress.holdTimer) (hd7 : di.list = s.distress.list)
    (hd8 : di.alarm = s.distress.alarm) (hd9 : di.highest = s.distress.highest)
    (hd10 : di.alarmLine = s.distress.alarmLine) :
    ({ s with
      msgs := ms, raised := r, store := st, log := lo, dir := d, time := tm, link := l, bcast := b, catch_ := k
      distress := di, arb := a, main := m, ctl := c } : State).frame = s.frame := by
  simp only [State.frame, State.calm, hd, hc, hl, hb, hk, Distress.calm, TimeUnit.calm, hd1, hd2, hd3, hd4, hd5, hd6, hd7, hd8, hd9, hd10, ht1, ht2, ht3, ht4,
    ht5, ht6]


/-! ### Shared operations -/

theorem post_calm (m : Msg) (h : m.mild = true) : (s.post m).calm = s.calm := by simp [State.calm, State.post, h]

@[simp] theorem post_granted_calm (c : Claim) : (s.post (.granted c)).calm = s.calm := post_calm s _ rfl
@[simp] theorem post_refused_calm (c : Claim) : (s.post (.refused c)).calm = s.calm := post_calm s _ rfl
@[simp] theorem post_yieldAsked_calm : (s.post .yieldAsked).calm = s.calm := post_calm s _ rfl
@[simp] theorem post_higherWaiting_calm : (s.post .higherWaiting).calm = s.calm := post_calm s _ rfl
@[simp] theorem post_backInService_calm : (s.post .backInService).calm = s.calm := post_calm s _ rfl
@[simp] theorem post_tuned_calm (c : Claim) (r o : Bool) : (s.post (.tuned c r o)).calm = s.calm := post_calm s _ rfl
@[simp] theorem post_dueTest_calm : (s.post .dueTest).calm = s.calm := post_calm s _ rfl

@[simp] theorem post_frame (m : Msg) : (s.post m).frame = s.frame := rfl

@[simp] theorem raise_calm (n : Notice) : (s.raise n).calm = s.calm := rfl

@[simp] theorem raise_frame (n : Notice) : (s.raise n).frame = s.frame := frame_of_calm (raise_calm s n)

@[simp] theorem logWrite_calm (k : LogKind) (p c : Nat) : (s.logWrite k p c).calm = s.calm := rfl

@[simp] theorem logWrite_frame (k : LogKind) (p c : Nat) : (s.logWrite k p c).frame = s.frame := frame_of_calm (logWrite_calm s k p c)

@[simp] theorem logComplete_calm (n : Half) (o : LogOutcome) (a e : Option Nat) : (s.logComplete n o a e).calm = s.calm := rfl

@[simp] theorem logComplete_frame (n : Half) (o : LogOutcome) (a e : Option Nat) : (s.logComplete n o a e).frame = s.frame := frame_of_calm (logComplete_calm s n o a e)

@[simp] theorem logMoment_calm (k : LogKind) (p c : Nat) (o : LogOutcome) (a e : Option Nat) : (s.logMoment k p c o a e).calm = s.calm := rfl

@[simp] theorem logMoment_frame (k : LogKind) (p c : Nat) (o : LogOutcome) (a e : Option Nat) : (s.logMoment k p c o a e).frame = s.frame := frame_of_calm (logMoment_calm s k p c o a e)

@[simp] theorem draw_calm (k : Nat) : ((s.draw k).2).calm = s.calm := by simp only [State.draw, upd_calm]

@[simp] theorem draw_frame (k : Nat) : ((s.draw k).2).frame = s.frame := frame_of_calm (draw_calm s k)

@[simp] theorem command_calm (r : Radio) (k : ControlKind) (tx rx : Nat) : (s.command r k tx rx).calm = s.calm := rfl

@[simp] theorem command_frame (r : Radio) (k : ControlKind) (tx rx : Nat) : (s.command r k tx rx).frame = s.frame := frame_of_calm (command_calm s r k tx rx)

theorem updStation_calm (n : Nat) (g : Station → Station) (h : ∀ st, (g st).calm = st.calm) :
    (s.updStation n g).calm = s.calm := by
  have : (s.updStation n g).dir.stations.mapVals Station.calm = s.dir.stations.mapVals Station.calm := by
    simp only [State.updStation, Table.mapVals, List.map_map]
    apply List.map_congr_left
    intro e _
    by_cases c : e.2.cfg.number = n <;> simp [c, h]
  simp only [State.calm, this]
  rfl

@[simp] theorem backOff_calm (n : Nat) : (s.backOff n).calm = s.calm := by
  unfold State.backOff
  split
  · rfl
  · simp only
    rw [updStation_calm, draw_calm]
    intro st
    rfl

@[simp] theorem backOff_frame (n : Nat) : (s.backOff n).frame = s.frame := frame_of_calm (backOff_calm s n)

@[simp] theorem updRecord_frame (n : Nat) (g : MsgRec → MsgRec) : (s.updRecord n g).frame = s.frame := rfl

@[simp] theorem storeLowTest_frame : (s.storeLowTest).frame = s.frame := by
  unfold State.storeLowTest
  try dsimp only
  all_goals (repeat' split) <;> first | rfl | simp [upd_calm, upd_frame]

@[simp] theorem freeRecord_frame (n : Nat) : (s.freeRecord n).frame = s.frame := by
  unfold State.freeRecord
  try dsimp only
  all_goals (repeat' split) <;> first | rfl | simp [upd_calm, upd_frame]

@[simp] theorem freeRecordsEach_frame (l : List Nat) : (s.freeRecords' l).frame = s.frame := by
  unfold State.freeRecords'
  induction l generalizing s with
  | nil => rfl
  | cons n l ih => simp [List.foldl_cons, ih]

@[simp] theorem requeue_frame (n : Nat) : (s.requeue n).frame = s.frame := rfl

@[simp] theorem requeueCounted_frame (n : Nat) : (s.requeueCounted n).frame = s.frame := by
  unfold State.requeueCounted
  try dsimp only
  all_goals (repeat' split) <;> first | rfl | simp [upd_calm, upd_frame]

@[simp] theorem takeRecord_frame (n : Nat) : (s.takeRecord n).frame = s.frame := rfl

/-! ### Radio -/

@[simp] theorem keyBurst_calm (b : Burst) : (s.keyBurst b).calm = s.calm := rfl

@[simp] theorem keyBurst_frame (b : Burst) : (s.keyBurst b).frame = s.frame := frame_of_calm (keyBurst_calm s b)

@[simp] theorem sendBurst_calm (b : Burst) : (s.sendBurst b).calm = s.calm := by
  unfold State.sendBurst
  try dsimp only
  all_goals (repeat' split) <;> first | rfl | simp [upd_calm, upd_frame]

@[simp] theorem sendBurst_frame (b : Burst) : (s.sendBurst b).frame = s.frame := frame_of_calm (sendBurst_calm s b)

@[simp] theorem nextBurst_calm : (s.nextBurst).calm = s.calm := by
  unfold State.nextBurst
  try dsimp only
  all_goals (repeat' split) <;> first | rfl | simp [upd_calm, upd_frame]

@[simp] theorem nextBurst_frame : (s.nextBurst).frame = s.frame := frame_of_calm (nextBurst_calm s)

@[simp] theorem unkey_calm : (s.unkey).calm = s.calm := by
  unfold State.unkey
  try dsimp only
  all_goals (repeat' split) <;> first | rfl | simp [upd_calm, upd_frame]

@[simp] theorem unkey_frame : (s.unkey).frame = s.frame := frame_of_calm (unkey_calm s)

@[simp] theorem sendTune_calm (ch : Nat) (c : Claim) : (s.sendTune ch c).calm = s.calm := by
  unfold State.sendTune
  try dsimp only
  all_goals (repeat' split) <;> first | rfl | simp [upd_calm, upd_frame]

@[simp] theorem sendTune_frame (ch : Nat) (c : Claim) : (s.sendTune ch c).frame = s.frame := frame_of_calm (sendTune_calm s ch c)

@[simp] theorem tuneMain_calm (ch : Nat) (c : Claim) : (s.tuneMain ch c).calm = s.calm := by
  unfold State.tuneMain
  try dsimp only
  all_goals (repeat' split) <;> first | rfl | simp [upd_calm, upd_frame]

@[simp] theorem tuneMain_frame (ch : Nat) (c : Claim) : (s.tuneMain ch c).frame = s.frame := frame_of_calm (tuneMain_calm s ch c)

@[simp] theorem sendWaitingTune_calm : (s.sendWaitingTune).calm = s.calm := by
  unfold State.sendWaitingTune
  try dsimp only
  all_goals (repeat' split) <;> first | rfl | simp [upd_calm, upd_frame]

@[simp] theorem sendWaitingTune_frame : (s.sendWaitingTune).frame = s.frame := frame_of_calm (sendWaitingTune_calm s)

@[simp] theorem dropRadio_calm : (s.dropRadio).calm = s.calm := by
  unfold State.dropRadio
  try dsimp only
  all_goals (repeat' split) <;> first | rfl | simp [upd_calm, upd_frame]

@[simp] theorem dropRadio_frame : (s.dropRadio).frame = s.frame := frame_of_calm (dropRadio_calm s)

/-! ### Airtime -/

@[simp] theorem grant_calm (c : Claim) : (s.grant c).calm = s.calm := by
  unfold State.grant
  try dsimp only
  all_goals (repeat' split) <;> first | rfl | simp [upd_calm, upd_frame]

@[simp] theorem grant_frame (c : Claim) : (s.grant c).frame = s.frame := frame_of_calm (grant_calm s c)

@[simp] theorem revoke_frame (b : RevokeCause) : (s.revoke b).frame = s.frame := by
  unfold State.revoke
  try dsimp only
  all_goals (repeat' split) <;> first | rfl | simp [upd_calm, upd_frame]

@[simp] theorem wait_calm (c h : Claim) : (s.wait c h).calm = s.calm := by
  unfold State.wait
  try dsimp only
  all_goals (repeat' split) <;> first | rfl | simp [upd_calm, upd_frame]

@[simp] theorem wait_frame (c h : Claim) : (s.wait c h).frame = s.frame := frame_of_calm (wait_calm s c h)

@[simp] theorem place_frame (c : Claim) : (s.place c).frame = s.frame := by
  unfold State.place
  try dsimp only
  all_goals (repeat' split) <;> first | rfl | simp [upd_calm, upd_frame]

/-- A claim of class 3 to 6 revokes no one (R192). -/
theorem place_calm (c : Claim) (h : 3 ≤ c.cls) : (s.place c).calm = s.calm := by
  have r : ∀ d : Claim, revokes c d = false := by
    intro d
    simp only [revokes, Bool.or_eq_false_iff, Bool.and_eq_false_iff, beq_eq_false_iff_ne]
    omega
  unfold State.place
  (repeat' split) <;> simp_all [upd_calm]

@[simp] theorem place_call_calm : (s.place .call).calm = s.calm := place_calm s _ (by decide)
@[simp] theorem place_watch_calm : (s.place .watch).calm = s.calm := place_calm s _ (by decide)

@[simp] theorem afterGrant_calm (c : Claim) : (s.afterGrant c).calm = s.calm := by
  unfold State.afterGrant
  try dsimp only
  all_goals (repeat' split) <;> first | rfl | simp [upd_calm, upd_frame]

@[simp] theorem afterGrant_frame (c : Claim) : (s.afterGrant c).frame = s.frame := frame_of_calm (afterGrant_calm s c)

@[simp] theorem grantFrom_calm (l : List Claim) : (s.grantFrom l).calm = s.calm := by
  induction l generalizing s with
  | nil => simp [State.grantFrom, upd_calm]
  | cons c l ih =>
    unfold State.grantFrom
    split
    · simp [upd_calm]
    · simp [ih]

@[simp] theorem grantFrom_frame (l : List Claim) : (s.grantFrom l).frame = s.frame := frame_of_calm (grantFrom_calm s l)

@[simp] theorem grantNext_calm : (s.grantNext).calm = s.calm := by
  unfold State.grantNext
  try dsimp only
  all_goals (repeat' split) <;> first | rfl | simp [upd_calm, upd_frame]

@[simp] theorem grantNext_frame : (s.grantNext).frame = s.frame := frame_of_calm (grantNext_calm s)

@[simp] theorem release_calm : (s.release).calm = s.calm := by
  unfold State.release
  try dsimp only
  all_goals (repeat' split) <;> first | rfl | simp [upd_calm, upd_frame]

@[simp] theorem release_frame : (s.release).frame = s.frame := frame_of_calm (release_calm s)

@[simp] theorem withdrawClaim_calm (c : Claim) : (s.withdrawClaim c).calm = s.calm := by
  unfold State.withdrawClaim
  try dsimp only
  all_goals (repeat' split) <;> first | rfl | simp [upd_calm, upd_frame]

@[simp] theorem withdrawClaim_frame (c : Claim) : (s.withdrawClaim c).frame = s.frame := frame_of_calm (withdrawClaim_calm s c)

@[simp] theorem giveUp_calm (c : Claim) : (s.giveUp c).calm = s.calm := by
  unfold State.giveUp
  try dsimp only
  all_goals (repeat' split) <;> first | rfl | simp [upd_calm, upd_frame]

@[simp] theorem giveUp_frame (c : Claim) : (s.giveUp c).frame = s.frame := frame_of_calm (giveUp_calm s c)

@[simp] theorem radioOutOfService_frame : (s.radioOutOfService).frame = s.frame := by
  unfold State.radioOutOfService
  dsimp only
  split <;> split <;> simp

/-! ### The link engine between calls -/

@[simp] theorem claimWatch_calm : (s.claimWatch).calm = s.calm := by
  unfold State.claimWatch
  try dsimp only
  all_goals (repeat' split) <;> first | rfl | simp [upd_calm, upd_frame]

@[simp] theorem claimWatch_frame : (s.claimWatch).frame = s.frame := frame_of_calm (claimWatch_calm s)

@[simp] theorem chooseWatch_calm : (s.chooseWatch).calm = s.calm := by
  unfold State.chooseWatch
  try dsimp only
  all_goals (repeat' split) <;> first | rfl | simp [upd_calm, upd_frame]

@[simp] theorem chooseWatch_frame : (s.chooseWatch).frame = s.frame := frame_of_calm (chooseWatch_calm s)

@[simp] theorem giveWay_calm : (s.giveWay).calm = s.calm := by
  unfold State.giveWay
  try dsimp only
  all_goals (repeat' split) <;> first | rfl | simp [upd_calm, upd_frame]

@[simp] theorem giveWay_frame : (s.giveWay).frame = s.frame := frame_of_calm (giveWay_calm s)

@[simp] theorem startRound_calm (n : Nat) : (s.startRound n).calm = s.calm := by
  unfold State.startRound
  try dsimp only
  all_goals (repeat' split) <;> first | rfl | simp [upd_calm, upd_frame]

@[simp] theorem startRound_frame (n : Nat) : (s.startRound n).frame = s.frame := frame_of_calm (startRound_calm s n)

@[simp] theorem dueTest_calm : (s.dueTest).calm = s.calm := by
  unfold State.dueTest
  try dsimp only
  all_goals (repeat' split) <;> first | rfl | simp [upd_calm, upd_frame]

@[simp] theorem dueTest_frame : (s.dueTest).frame = s.frame := frame_of_calm (dueTest_calm s)

@[simp] theorem toIdle_calm : (s.toIdle).calm = s.calm := by
  unfold State.toIdle
  try dsimp only
  all_goals (repeat' split) <;> first | rfl | simp [upd_calm, upd_frame]

@[simp] theorem toIdle_frame : (s.toIdle).frame = s.frame := frame_of_calm (toIdle_calm s)

@[simp] theorem releaseToIdle_calm : (s.releaseToIdle).calm = s.calm := by
  unfold State.releaseToIdle
  try dsimp only
  all_goals (repeat' split) <;> first | rfl | simp [upd_calm, upd_frame]

@[simp] theorem releaseToIdle_frame : (s.releaseToIdle).frame = s.frame := frame_of_calm (releaseToIdle_calm s)

@[simp] theorem settleSending_frame (b : Bool) (n : Nat) : ((State.settleSending b s n)).frame = s.frame := by
  unfold State.settleSending
  try dsimp only
  all_goals (repeat' split) <;> first | rfl | simp [upd_calm, upd_frame]

@[simp] theorem closeAttempt_calm (r : Round) (o : LogOutcome) : (s.closeAttempt r o).calm = s.calm := by
  unfold State.closeAttempt
  try dsimp only
  all_goals (repeat' split) <;> first | rfl | simp [upd_calm, upd_frame]

@[simp] theorem closeAttempt_frame (r : Round) (o : LogOutcome) : (s.closeAttempt r o).frame = s.frame := frame_of_calm (closeAttempt_calm s r o)

@[simp] theorem failRound_calm (r : Round) : (s.failRound r).calm = s.calm := by
  unfold State.failRound
  try dsimp only
  all_goals (repeat' split) <;> first | rfl | simp [upd_calm, upd_frame]

@[simp] theorem failRound_frame (r : Round) : (s.failRound r).frame = s.frame := frame_of_calm (failRound_calm s r)

theorem foldl_frame {α : Type} (g : State → α → State) (h : ∀ s a, (g s a).frame = s.frame) (l : List α) :
    (l.foldl g s).frame = s.frame := by
  induction l generalizing s with
  | nil => rfl
  | cons a l ih => rw [List.foldl_cons, ih, h]

theorem updStation_frame (n : Nat) (g : Station → Station) (h : ∀ st, (g st).calm = st.calm) :
    (s.updStation n g).frame = s.frame := frame_of_calm (updStation_calm s n g h)

@[simp] theorem settleSendingEach_frame (b : Bool) (l : List Nat) : (l.foldl (State.settleSending b) s).frame = s.frame :=
  foldl_frame s _ (fun s n => settleSending_frame s b n) l

@[simp] theorem clearFails_frame (n : Nat) : (s.updStation n fun st => { st with k := 0 }).frame = s.frame :=
  updStation_frame s n _ fun _ => rfl

@[simp] theorem closeSession_frame (e : Session) (o : LogOutcome) (b : Bool) : (s.closeSession e o b).frame = s.frame := by
  unfold State.closeSession
  dsimp only
  split <;> split <;> simp

@[simp] theorem endSession_frame (o : LogOutcome) (b : Bool) : (s.endSession o b).frame = s.frame := by
  unfold State.endSession
  try dsimp only
  all_goals (repeat' split) <;> first | rfl | simp [upd_calm, upd_frame]

@[simp] theorem loseSession_frame : (s.loseSession).frame = s.frame := by
  unfold State.loseSession
  try dsimp only
  all_goals (repeat' split) <;> first | rfl | simp [upd_calm, upd_frame]

@[simp] theorem linkRevoked_frame (b : RevokeCause) : (s.linkRevoked b).frame = s.frame := by
  unfold State.linkRevoked
  try dsimp only
  all_goals (repeat' split) <;> first | rfl | simp [upd_calm, upd_frame]

/-! ### Sessions -/

@[simp] theorem updSession_calm (g : Session → Session) : (s.updSession g).calm = s.calm := by
  unfold State.updSession
  try dsimp only
  all_goals (repeat' split) <;> first | rfl | simp [upd_calm, upd_frame]

@[simp] theorem updSession_frame (g : Session → Session) : (s.updSession g).frame = s.frame := frame_of_calm (updSession_calm s g)

@[simp] theorem takeRecordOf_frame (n : Nat) : (s.takeRecord n).frame = s.frame := rfl

@[simp] theorem addNewFrame_frame (e : Session) (p : Nat) : (s.addNewFrame e p).1.frame = s.frame := by
  unfold State.addNewFrame
  repeat' split
  all_goals first | rfl | simp

@[simp] theorem addNewFrames_frame (k : Nat) (e : Session) (p : Nat) : (s.addNewFrames k e p).1.frame = s.frame := by
  induction k generalizing s e with
  | zero => rfl
  | succ k ih =>
    unfold State.addNewFrames
    split
    · simp [ih]
    · rfl

@[simp] theorem fillVolley_frame (e : Session) : (s.fillVolley e).1.frame = s.frame := by
  simp [State.fillVolley]

@[simp] theorem buildVolley_frame : (s.buildVolley).frame = s.frame := by
  unfold State.buildVolley
  try dsimp only
  all_goals (repeat' split) <;> first | rfl | simp [upd_calm, upd_frame]

@[simp] theorem takeTurn_frame : (s.takeTurn).frame = s.frame := by
  unfold State.takeTurn
  try dsimp only
  all_goals (repeat' split) <;> first | rfl | simp [upd_calm, upd_frame]

@[simp] theorem volleySent_frame : (s.volleySent).frame = s.frame := by
  unfold State.volleySent
  try dsimp only
  all_goals (repeat' split) <;> first | rfl | simp [upd_calm, upd_frame]

@[simp] theorem sendClear_calm (r : ClearReason) : (s.sendClear r).calm = s.calm := by
  unfold State.sendClear
  try dsimp only
  all_goals (repeat' split) <;> first | rfl | simp [upd_calm, upd_frame]

@[simp] theorem sendClear_frame (r : ClearReason) : (s.sendClear r).frame = s.frame := frame_of_calm (sendClear_calm s r)

@[simp] theorem clearSent_frame (r : ClearReason) : (s.clearSent r).frame = s.frame := by
  unfold State.clearSent
  try dsimp only
  all_goals (repeat' split) <;> first | rfl | simp [upd_calm, upd_frame]

@[simp] theorem yieldInClearing_calm : (s.yieldInClearing).calm = s.calm := by
  unfold State.yieldInClearing
  try dsimp only
  all_goals (repeat' split) <;> first | rfl | simp [upd_calm, upd_frame]

@[simp] theorem yieldInClearing_frame : (s.yieldInClearing).frame = s.frame := frame_of_calm (yieldInClearing_calm s)

/-! ### Call rounds -/

@[simp] theorem sendCall_calm (r : Round) : (s.sendCall r).calm = s.calm := by
  unfold State.sendCall
  try dsimp only
  all_goals (repeat' split) <;> first | rfl | simp [upd_calm, upd_frame]

@[simp] theorem sendCall_frame (r : Round) : (s.sendCall r).frame = s.frame := frame_of_calm (sendCall_calm s r)

@[simp] theorem beginAttempt_calm (r : Round) (ch : Nat) : (s.beginAttempt r ch).calm = s.calm := by
  unfold State.beginAttempt
  try dsimp only
  all_goals (repeat' split) <;> first | rfl | simp [upd_calm, upd_frame]

@[simp] theorem beginAttempt_frame (r : Round) (ch : Nat) : (s.beginAttempt r ch).frame = s.frame := frame_of_calm (beginAttempt_calm s r ch)

@[simp] theorem nextAttempt_calm (r : Round) : (s.nextAttempt r).calm = s.calm := by
  unfold State.nextAttempt
  try dsimp only
  all_goals (repeat' split) <;> first | rfl | simp [upd_calm, upd_frame]

@[simp] theorem nextAttempt_frame (r : Round) : (s.nextAttempt r).frame = s.frame := frame_of_calm (nextAttempt_calm s r)

@[simp] theorem callOpen_calm (n : Nat) : (s.updStation n Station.callOpen).calm = s.calm :=
  updStation_calm s n _ fun _ => rfl

@[simp] theorem noChannel_calm (n : Nat) : (s.updStation n fun t => { t with noChannel := true }).calm = s.calm :=
  updStation_calm s n _ fun _ => rfl

@[simp] theorem callGranted_calm : (s.callGranted).calm = s.calm := by
  unfold State.callGranted
  try dsimp only
  all_goals (repeat' split) <;> first | rfl | simp [upd_calm, upd_frame]

@[simp] theorem callGranted_frame : (s.callGranted).frame = s.frame := frame_of_calm (callGranted_calm s)

@[simp] theorem callRefused_calm : (s.callRefused).calm = s.calm := by
  unfold State.callRefused
  try dsimp only
  all_goals (repeat' split) <;> first | rfl | simp [upd_calm, upd_frame]

@[simp] theorem callRefused_frame : (s.callRefused).frame = s.frame := frame_of_calm (callRefused_calm s)

@[simp] theorem callTuned_calm (a b : Bool) : (s.callTuned a b).calm = s.calm := by
  unfold State.callTuned
  try dsimp only
  all_goals (repeat' split) <;> first | rfl | simp [upd_calm, upd_frame]

@[simp] theorem callTuned_frame (a b : Bool) : (s.callTuned a b).frame = s.frame := frame_of_calm (callTuned_calm s a b)

@[simp] theorem callSent_calm : (s.callSent).calm = s.calm := by
  unfold State.callSent
  try dsimp only
  all_goals (repeat' split) <;> first | rfl | simp [upd_calm, upd_frame]

@[simp] theorem callSent_frame : (s.callSent).frame = s.frame := frame_of_calm (callSent_calm s)

@[simp] theorem acceptSent_calm : (s.acceptSent).calm = s.calm := by
  unfold State.acceptSent
  try dsimp only
  all_goals (repeat' split) <;> first | rfl | simp [upd_calm, upd_frame]

@[simp] theorem acceptSent_frame : (s.acceptSent).frame = s.frame := frame_of_calm (acceptSent_calm s)

@[simp] theorem rejectSent_calm : (s.rejectSent).calm = s.calm := by
  unfold State.rejectSent
  try dsimp only
  all_goals (repeat' split) <;> first | rfl | simp [upd_calm, upd_frame]

@[simp] theorem rejectSent_frame : (s.rejectSent).frame = s.frame := frame_of_calm (rejectSent_calm s)

@[simp] theorem yieldInAwait_calm : (s.yieldInAwait).calm = s.calm := by
  unfold State.yieldInAwait
  try dsimp only
  all_goals (repeat' split) <;> first | rfl | simp [upd_calm, upd_frame]

@[simp] theorem yieldInAwait_frame : (s.yieldInAwait).frame = s.frame := frame_of_calm (yieldInAwait_calm s)

/-! ### Broadcast windows -/

@[simp] theorem removeWindow_calm (n : Nat) : (s.removeWindow n).calm = s.calm := by
  unfold State.removeWindow
  try dsimp only
  all_goals (repeat' split) <;> first | rfl | simp [upd_calm, upd_frame]

@[simp] theorem removeWindow_frame (n : Nat) : (s.removeWindow n).frame = s.frame := frame_of_calm (removeWindow_calm s n)

@[simp] theorem updWindow_calm (n : Nat) (g : Window → Window) : (s.updWindow n g).calm = s.calm := by
  unfold State.updWindow
  try dsimp only
  all_goals (repeat' split) <;> first | rfl | simp [upd_calm, upd_frame]

@[simp] theorem updWindow_frame (n : Nat) (g : Window → Window) : (s.updWindow n g).frame = s.frame := frame_of_calm (updWindow_calm s n g)

@[simp] theorem raiseMissed_calm (w : Window) (o : LogOutcome) : (s.raiseMissed w o).calm = s.calm := by
  unfold State.raiseMissed
  try dsimp only
  all_goals (repeat' split) <;> first | rfl | simp [upd_calm, upd_frame]

@[simp] theorem raiseMissed_frame (w : Window) (o : LogOutcome) : (s.raiseMissed w o).frame = s.frame := frame_of_calm (raiseMissed_calm s w o)

@[simp] theorem windowGranted_calm (c : Claim) : (s.windowGranted c).calm = s.calm := by
  unfold State.windowGranted
  try dsimp only
  all_goals (repeat' split) <;> first | rfl | simp [upd_calm, upd_frame]

@[simp] theorem windowGranted_frame (c : Claim) : (s.windowGranted c).frame = s.frame := frame_of_calm (windowGranted_calm s c)

@[simp] theorem windowRefused_calm (c : Claim) : (s.windowRefused c).calm = s.calm := by
  unfold State.windowRefused
  try dsimp only
  all_goals (repeat' split) <;> first | rfl | simp [upd_calm, upd_frame]

@[simp] theorem windowRefused_frame (c : Claim) : (s.windowRefused c).frame = s.frame := frame_of_calm (windowRefused_calm s c)

@[simp] theorem windowTuned_calm (c : Claim) (b : Bool) : (s.windowTuned c b).calm = s.calm := by
  unfold State.windowTuned
  try dsimp only
  all_goals (repeat' split) <;> first | rfl | simp [upd_calm, upd_frame]

@[simp] theorem windowTuned_frame (c : Claim) (b : Bool) : (s.windowTuned c b).frame = s.frame := frame_of_calm (windowTuned_calm s c b)

@[simp] theorem cutEntries_calm (w : Window) (a b : LogOutcome) : (s.cutEntries w a b).calm = s.calm := by
  unfold State.cutEntries
  try dsimp only
  all_goals (repeat' split) <;> first | rfl | simp [upd_calm, upd_frame]

@[simp] theorem cutEntries_frame (w : Window) (a b : LogOutcome) : (s.cutEntries w a b).frame = s.frame := frame_of_calm (cutEntries_calm s w a b)

@[simp] theorem cutReception_calm (w : Window) (a b : LogOutcome) : (s.cutReception w a b).calm = s.calm := by
  unfold State.cutReception
  try dsimp only
  all_goals (repeat' split) <;> first | rfl | simp [upd_calm, upd_frame]

@[simp] theorem cutReception_frame (w : Window) (a b : LogOutcome) : (s.cutReception w a b).frame = s.frame := frame_of_calm (cutReception_calm s w a b)

@[simp] theorem windowRevoked_calm (c : Claim) (b : RevokeCause) : (s.windowRevoked c b).calm = s.calm := by
  unfold State.windowRevoked
  try dsimp only
  all_goals (repeat' split) <;> first | rfl | simp [upd_calm, upd_frame]

@[simp] theorem windowRevoked_frame (c : Claim) (b : RevokeCause) : (s.windowRevoked c b).frame = s.frame := frame_of_calm (windowRevoked_calm s c b)

/-! ### The alert cycle -/

@[simp] theorem raiseOwn_calm (c : OwnCause) : (s.raiseOwn c).calm = s.calm := by
  unfold State.raiseOwn
  try dsimp only
  all_goals (repeat' split) <;> first | rfl | simp [upd_calm, upd_frame]

@[simp] theorem raiseOwn_frame (c : OwnCause) : (s.raiseOwn c).frame = s.frame := frame_of_calm (raiseOwn_calm s c)

@[simp] theorem closeRotation_calm (o : LogOutcome) : (s.closeRotation o).calm = s.calm := by
  unfold State.closeRotation
  try dsimp only
  all_goals (repeat' split) <;> first | rfl | simp [upd_calm, upd_frame]

@[simp] theorem closeRotation_frame (o : LogOutcome) : (s.closeRotation o).frame = s.frame := frame_of_calm (closeRotation_calm s o)

@[simp] theorem releaseDistress_calm : (s.releaseDistress).calm = s.calm := by
  unfold State.releaseDistress
  try dsimp only
  all_goals (repeat' split) <;> first | rfl | simp [upd_calm, upd_frame]

@[simp] theorem releaseDistress_frame : (s.releaseDistress).frame = s.frame := frame_of_calm (releaseDistress_calm s)

@[simp] theorem endRotation_calm : (s.endRotation).calm = s.calm := by
  unfold State.endRotation
  try dsimp only
  all_goals (repeat' split) <;> first | rfl | simp [upd_calm, upd_frame]

@[simp] theorem endRotation_frame : (s.endRotation).frame = s.frame := frame_of_calm (endRotation_calm s)

@[simp] theorem rotationStep_calm : (s.rotationStep).calm = s.calm := by
  unfold State.rotationStep
  try dsimp only
  all_goals (repeat' split) <;> first | rfl | simp [upd_calm, upd_frame]

@[simp] theorem rotationStep_frame : (s.rotationStep).frame = s.frame := frame_of_calm (rotationStep_calm s)

@[simp] theorem startRotation_calm : (s.startRotation).calm = s.calm := by
  unfold State.startRotation
  try dsimp only
  all_goals (repeat' split) <;> first | rfl | simp [upd_calm, upd_frame]

@[simp] theorem startRotation_frame : (s.startRotation).frame = s.frame := frame_of_calm (startRotation_calm s)

@[simp] theorem alertTuned_calm (b : Bool) : (s.alertTuned b).calm = s.calm := by
  unfold State.alertTuned
  try dsimp only
  all_goals (repeat' split) <;> first | rfl | simp [upd_calm, upd_frame]

@[simp] theorem alertTuned_frame (b : Bool) : (s.alertTuned b).frame = s.frame := frame_of_calm (alertTuned_calm s b)

@[simp] theorem alertSent_calm : (s.alertSent).calm = s.calm := by
  unfold State.alertSent
  try dsimp only
  all_goals (repeat' split) <;> first | rfl | simp [upd_calm, upd_frame]

@[simp] theorem alertSent_frame : (s.alertSent).frame = s.frame := frame_of_calm (alertSent_calm s)

/-! ### The exchange of messages -/

@[simp] theorem tallySent_frame : (s.tallySent).frame = s.frame := by
  unfold State.tallySent
  try dsimp only
  all_goals (repeat' split) <;> first | rfl | simp [upd_calm, upd_frame]

@[simp] theorem onGranted_calm (c : Claim) : (s.onGranted c).calm = s.calm := by
  unfold State.onGranted
  try dsimp only
  all_goals (repeat' split) <;> first | rfl | simp [upd_calm, upd_frame]

@[simp] theorem onGranted_frame (c : Claim) : (s.onGranted c).frame = s.frame := frame_of_calm (onGranted_calm s c)

@[simp] theorem onRefused_calm (c : Claim) : (s.onRefused c).calm = s.calm := by
  unfold State.onRefused
  try dsimp only
  all_goals (repeat' split) <;> first | rfl | simp [upd_calm, upd_frame]

@[simp] theorem onRefused_frame (c : Claim) : (s.onRefused c).frame = s.frame := frame_of_calm (onRefused_calm s c)

@[simp] theorem onRevoked_frame (c : Claim) (b : RevokeCause) : (s.onRevoked c b).frame = s.frame := by
  unfold State.onRevoked
  try dsimp only
  all_goals (repeat' split) <;> first | rfl | simp [upd_calm, upd_frame]

@[simp] theorem onYieldAsked_calm : (s.onYieldAsked).calm = s.calm := by
  unfold State.onYieldAsked
  try dsimp only
  all_goals (repeat' split) <;> first | rfl | simp [upd_calm, upd_frame]

@[simp] theorem onYieldAsked_frame : (s.onYieldAsked).frame = s.frame := frame_of_calm (onYieldAsked_calm s)

@[simp] theorem onHigherWaiting_calm : (s.onHigherWaiting).calm = s.calm := by
  unfold State.onHigherWaiting
  try dsimp only
  all_goals (repeat' split) <;> first | rfl | simp [upd_calm, upd_frame]

@[simp] theorem onHigherWaiting_frame : (s.onHigherWaiting).frame = s.frame := frame_of_calm (onHigherWaiting_calm s)

@[simp] theorem onBackInService_calm : (s.onBackInService).calm = s.calm := by
  unfold State.onBackInService
  try dsimp only
  all_goals (repeat' split) <;> first | rfl | simp [upd_calm, upd_frame]

@[simp] theorem onBackInService_frame : (s.onBackInService).frame = s.frame := frame_of_calm (onBackInService_calm s)

@[simp] theorem watchTuned_calm (b : Bool) : (s.watchTuned b).calm = s.calm := by
  unfold State.watchTuned
  try dsimp only
  all_goals (repeat' split) <;> first | rfl | simp [upd_calm, upd_frame]

@[simp] theorem watchTuned_frame (b : Bool) : (s.watchTuned b).frame = s.frame := frame_of_calm (watchTuned_calm s b)

@[simp] theorem onTuned_calm (c : Claim) (a b : Bool) : (s.onTuned c a b).calm = s.calm := by
  unfold State.onTuned
  try dsimp only
  all_goals (repeat' split) <;> first | rfl | simp [upd_calm, upd_frame]

@[simp] theorem onTuned_frame (c : Claim) (a b : Bool) : (s.onTuned c a b).frame = s.frame := frame_of_calm (onTuned_calm s c a b)

@[simp] theorem onBurstEnded_frame (b : Burst) : (s.onBurstEnded b).frame = s.frame := by
  unfold State.onBurstEnded
  try dsimp only
  all_goals (repeat' split) <;> first | rfl | simp [upd_calm, upd_frame]

@[simp] theorem handle_frame (m : Msg) : (s.handle m).frame = s.frame := by
  unfold State.handle
  try dsimp only
  all_goals (repeat' split) <;> first | rfl | simp [upd_calm, upd_frame]

theorem handle_calm (m : Msg) (h : m.mild = true) : (s.handle m).calm = s.calm := by
  cases m <;> simp_all [State.handle, Msg.mild]

theorem attend_calm {t : State} (h : s.attend = some t) : t.calm = s.calm := by
  unfold State.attend at h
  (repeat' split at h) <;> simp_all <;> subst h <;> simp

theorem settle_frame (k : Nat) : (s.settle k).frame = s.frame := by
  induction k generalizing s with
  | zero => rfl
  | succ k ih =>
    unfold State.settle
    split
    · rw [ih, handle_frame]; rfl
    · split
      · rfl
      · rename_i t h
        rw [ih, frame_of_calm (attend_calm s h)]

/-- The exchange of messages leaves alone what `frame` keeps. -/
@[simp] theorem work_frame : s.work.frame = s.frame := settle_frame s _

/-- A message that is mild leaves the queue of the others as it is. -/
theorem take_calm (m : Msg) (l : List Msg) (h : s.msgs = m :: l) (hm : m.mild = true) :
    ({ s with msgs := l } : State).calm = s.calm := by
  simp [State.calm, h, hm]

theorem settle_calm (k : Nat) (h : s.msgs.all Msg.mild = true) : (s.settle k).calm = s.calm := by
  induction k generalizing s with
  | zero => rfl
  | succ k ih =>
    unfold State.settle
    split
    · rename_i m l hl
      have hm : m.mild = true := by simp_all
      have e : (({ s with msgs := l } : State).handle m).calm = s.calm :=
        (handle_calm _ m hm).trans (take_calm s m l hl hm)
      rw [ih _ (mild_of_calm (s := s) e h), e]
    · split
      · rfl
      · rename_i t ht
        have e := attend_calm s ht
        rw [ih _ (mild_of_calm e h), e]

/-- An exchange that begins with mild messages leaves alone what `calm` keeps. -/
theorem work_calm (h : s.msgs.all Msg.mild = true) : s.work.calm = s.calm := settle_calm s _ h

end Sys2Proof.Machine
end

