-- ==== Sys2Proof/Laws/Requests.lean ====
section
/-! SUPPORT. What a port table, a request and the end of a command do, said once. -/

namespace Sys2Proof.Machine

/-! ### Port tables -/

section
variable {α β : Type} (x : PerPort α) (p q : Port) (v w : α)

@[simp] theorem PerPort.get_set_self : (x.set p v).get p = v := by cases p <;> rfl

theorem PerPort.get_set_ne (h : q ≠ p) : (x.set p v).get q = x.get q := by cases p <;> cases q <;> first | rfl | exact absurd rfl h

@[simp] theorem PerPort.set_set_self : (x.set p v).set p w = x.set p w := by cases p <;> rfl

theorem PerPort.set_comm (h : q ≠ p) : (x.set p v).set q w = (x.set q w).set p v := by
  cases p <;> cases q <;> first | rfl | exact absurd rfl h

@[simp] theorem PerPort.set_get : x.set p (x.get p) = x := by cases p <;> rfl

@[simp] theorem PerPort.get_map (f : α → β) : (x.map f).get p = f (x.get p) := by cases p <;> rfl

@[simp] theorem PerPort.map_id : (x.map fun y => y) = x := rfl

theorem PerPort.map_map {γ : Type} (f : α → β) (g : β → γ) : (x.map f).map g = x.map fun y => g (f y) := rfl
end

@[simp] theorem takeAll_nil (p : PortState) : p.takeAll [] = p := rfl

@[simp] theorem takeAll_append (p : PortState) (l m : List Notice) : p.takeAll (l ++ m) = (p.takeAll l).takeAll m := by
  simp [PortState.takeAll]

@[simp] theorem noticed_nil (s : State) : s.noticed [] = s := rfl

variable (s : State) (k : ReqKind) (r : Req)

/-! ### The end of a command -/

/-- With no message left and the held paths in SEARCHING, the end of a command delivers the notices. -/
theorem seal_settled {s : State} (l : List Instr) (hm : s.msgs = []) (hp : s.mainHeld = true → s.mainPath = .searching)
    (hw : s.watchHeld = true → s.watchPath = .searching) :
    s.seal l = { s.noticed s.raised with raised := [], pending := l } := by
  have a : (if s.mainHeld = true then RxState.searching else s.mainPath) = s.mainPath := by
    split
    · exact (hp ‹_›).symm
    · rfl
  have b : (if s.watchHeld = true then RxState.searching else s.watchPath) = s.watchPath := by
    split
    · exact (hw ‹_›).symm
    · rfl
  simp only [State.seal, State.noticed, a, b, hm]

theorem scrub_settled {s : State} (h : s.Settled) : s.scrub = s := by
  obtain ⟨hm, hr, -⟩ := h
  simp only [State.scrub, ← hm, ← hr]

/-- An event of a part that is on, between commands. -/
theorem localEvent_next {s : State} (h : s.Settled) (on : s.phase ≠ .off) (f : State → State) :
    localEvent s f = .next ((f s).seal s.pending) := by
  simp only [localEvent, if_neg on, scrub_settled h]

/-- An event of one block: the state that its effects leave and its notices. -/
theorem localEvent_done {s t : State} {ns : List Notice} (h : s.Settled) (on : s.phase ≠ .off) (f : State → State)
    (hf : f s = { t with raised := ns }) (ht : t.Settled) (hq : t.pending = s.pending) :
    localEvent s f = .next (t.noticed ns) := by
  rw [localEvent_next h on, hf, seal_settled (s := { t with raised := ns }) _ ht.1 ht.2.2.1 ht.2.2.2, ← hq]
  simp only [State.noticed, ht.2.1]

/-- An event of one block that changes nothing else and raises nothing. -/
theorem localEvent_quiet {s t : State} (h : s.Settled) (on : s.phase ≠ .off) (f : State → State) (hf : f s = t)
    (ht : t.Settled) (hq : t.pending = s.pending) : localEvent s f = .next t := by
  refine (localEvent_done (ns := []) h on f ?_ ht hq).trans rfl
  rw [hf, ← ht.2.1]

/-- An event that reaches other blocks. -/
theorem event_next {s : State} (h : s.Settled) (on : s.phase ≠ .off) (f : State → State) :
    event s f = .next ((f s).work.seal s.pending) := localEvent_next h on _

/-! ### A request -/

@[simp] theorem frameEnds_holds (p : PortState) (d : Nat) (g : Grant) : p.frameEnds.holds d g = p.holds d g := rfl

@[simp] theorem holds_taken (p : Port) (g : Grant) : (s.taken r).holds p g = s.holds p g := by
  unfold State.holds State.taken
  by_cases h : p = r.port
  · subst h; simp
  · simp [PerPort.get_set_ne _ _ _ _ h]

/-- A request that passes its checks is not refused by R200 or R211. -/
theorem refusal_passes {s : State} (h : s.Passes k r) (hk : ∀ n, k ≠ .other n) : (s.taken r).refusal k r = none := by
  obtain ⟨run, fits, grant, room, save⟩ := h
  have e : (s.taken r).holds r.port = s.holds r.port := funext fun g => holds_taken s r r.port g
  have ph : (s.taken r).phase = s.phase := rfl
  have sv : (s.taken r).saving = s.saving := rfl
  have q : ((s.taken r).ports.get r.port).outQ = (s.ports.get r.port).outQ := by simp [State.taken, PortState.frameEnds]
  have i : (k.image && s.saving) = false := by
    cases hi : k.image
    · rfl
    · simp [State.saving, save hi]
  have chain : (if !r.fits then some Code.badArgument
      else if !(k.grant.all (s.holds r.port)) then some .refusedGrant
      else if Config.queueFull ≤ (s.ports.get r.port).outQ.length then some .inUse
      else if k.image && s.saving then some .inUse
      else none) = none := by
    rw [if_neg (by simp [fits]), if_neg (by simp [grant]), if_neg (by omega), if_neg (by simp [i])]
  unfold State.refusal
  rw [e, ph, sv, q, if_neg (by simp [run])]
  cases k with
  | other n => exact absurd rfl (hk n)
  | _ => exact chain

/-- A request that passes its checks is decided by its own rule and answered in the same event (R200, R201). -/
theorem requestWith_next {s : State} {k : ReqKind} {r : Req} (h : s.Settled) (hp : s.Passes k r) (hk : ∀ n, k ≠ .other n)
    (work : State → State) (f : State → State × Answer) :
    requestWith work k r s f = .next (((work (f (s.taken r)).1).reply k r (f (s.taken r)).2).seal s.pending) := by
  have off : s.phase ≠ .off := by rw [hp.1]; decide
  have e : ({ s with ports := s.ports.set r.port (s.ports.get r.port).frameEnds } : State).refusal k r = none :=
    refusal_passes k r hp hk
  simp only [requestWith, if_neg off, scrub_settled h, e]
  rfl

/-- The end of a request: the answer joins its queue, and the notices follow. -/
theorem reply_seal {t : State} (k : ReqKind) (r : Req) (a : Answer) (ns : List Notice) (ht : t.Settled) :
    (({ t.taken r with raised := ns } : State).reply k r a).seal t.pending = t.answered k r a ns := by
  refine (seal_settled (s := ({ t.taken r with raised := ns } : State).reply k r a) _ ht.1 ht.2.2.1 ht.2.2.2).trans ?_
  simp only [State.answered, State.noticed, State.reply, State.taken, ht.2.1]

/-- A request that changes nothing. -/
theorem reply_seal_nil {t : State} (k : ReqKind) (r : Req) (a : Answer) (ht : t.Settled) :
    ((t.taken r).reply k r a).seal t.pending = t.answered k r a [] := by
  have e : (t.taken r).raised = [] := ht.2.1
  simpa only [← e] using reply_seal k r a [] ht

/-- A request of one block: the state that its effects leave, its answer and its notices. -/
theorem localRequest_next {s t : State} {k : ReqKind} {r : Req} {a : Answer} {ns : List Notice} (h : s.Settled)
    (hp : s.Passes k r) (hk : ∀ n, k ≠ .other n) (f : State → State × Answer)
    (hf : f (s.taken r) = ({ t.taken r with raised := ns }, a)) (ht : t.Settled) (hq : t.pending = s.pending) :
    localRequest k r s f = .next (t.answered k r a ns) := by
  unfold localRequest
  rw [requestWith_next h hp hk, hf]
  rw [← hq]
  exact congrArg _ (reply_seal k r a ns ht)

/-- A request that only reads: its answer joins the queue, and nothing else changes. -/
theorem query_next {s : State} {k : ReqKind} {r : Req} (h : s.Settled) (hp : s.Passes k r) (hk : ∀ n, k ≠ .other n)
    (f : State → Answer) (hf : f (s.taken r) = f s) : query k r s f = .next (s.answered k r (f s) []) := by
  refine localRequest_next h hp hk _ ?_ h rfl
  have e : (s.taken r).raised = [] := h.2.1
  simp only [hf, ← e]

end Sys2Proof.Machine
end

