-- ==== Sys2Proof/Laws/Ports.lean ====
section
/-! SUPPORT. The effects of requests leave the ports alone; the end of a command alone delivers answers and notices. -/

set_option linter.unusedSimpArgs false

namespace Sys2Proof.Machine

variable (s : State)

theorem ports_of_frame {s t : State} (h : t.frame = s.frame) : t.ports = s.ports :=
  show t.frame.ports = s.frame.ports by rw [h]

@[simp] theorem work_ports : s.work.ports = s.ports := ports_of_frame (work_frame s)

theorem foldl_ports {α : Type} (g : State → α → State) (h : ∀ s a, (g s a).ports = s.ports) (l : List α) :
    (l.foldl g s).ports = s.ports := by
  induction l generalizing s with
  | nil => rfl
  | cons a l ih => rw [List.foldl_cons, ih, h]

@[simp] theorem storeLowTest_ports : (s.storeLowTest).ports = s.ports := ports_of_frame (storeLowTest_frame s)

@[simp] theorem freeRecord_ports (n : Nat) : (s.freeRecord n).ports = s.ports := ports_of_frame (freeRecord_frame s n)

@[simp] theorem tuneMain_ports (ch : Nat) (c : Claim) : (s.tuneMain ch c).ports = s.ports := ports_of_frame (tuneMain_frame s ch c)

@[simp] theorem place_ports (c : Claim) : (s.place c).ports = s.ports := ports_of_frame (place_frame s c)

@[simp] theorem startRotation_ports : (s.startRotation).ports = s.ports := ports_of_frame (startRotation_frame s)

@[simp] theorem dueTest_ports : (s.dueTest).ports = s.ports := ports_of_frame (dueTest_frame s)

@[simp] theorem releaseDistress_ports : (s.releaseDistress).ports = s.ports := ports_of_frame (releaseDistress_frame s)

@[simp] theorem closeRotation_ports (o : LogOutcome) : (s.closeRotation o).ports = s.ports := ports_of_frame (closeRotation_frame s o)

@[simp] theorem raiseOwn_ports (c : OwnCause) : (s.raiseOwn c).ports = s.ports := ports_of_frame (raiseOwn_frame s c)

@[simp] theorem chooseWatch_ports : (s.chooseWatch).ports = s.ports := ports_of_frame (chooseWatch_frame s)

@[simp] theorem claimWatch_ports : (s.claimWatch).ports = s.ports := ports_of_frame (claimWatch_frame s)

@[simp] theorem reclaim_ports (k : Nat) (ok : State → Bool) : (State.reclaim k ok s).ports = s.ports := by
  induction k generalizing s with
  | zero => rfl
  | succ k ih =>
    unfold State.reclaim
    (repeat' split) <;> first | rfl | simp [ih]

@[simp] theorem reclaimFor_ports (ok : State → Bool) : (s.reclaimFor ok).ports = s.ports := by
  unfold State.reclaimFor
  try dsimp only
  all_goals (repeat' split) <;> first | rfl | simp

@[simp] theorem allocPages_ports (p : Permission) (n m : Nat) : ((s.allocPages p n m).2).ports = s.ports := by
  unfold State.allocPages
  try dsimp only
  all_goals (repeat' split) <;> first | rfl | simp

@[simp] theorem allocRecord_ports (p : Permission) (r : MsgRec) : ((s.allocRecord p r).2).ports = s.ports := by
  unfold State.allocRecord
  try dsimp only
  all_goals (repeat' split) <;> first | rfl | simp

@[simp] theorem allocText_ports (p : Permission) (r : MsgRec) : ((s.allocText p r).2).ports = s.ports := by
  have e := allocRecord_ports s p r
  unfold State.allocText
  split
  · rename_i s1 h
    rwa [h] at e
  · rename_i n s1 h
    rw [h] at e
    split
    · exact e
    · have e2 := allocPages_ports s1 p (pagesFor r.textLen) n
      split <;> rename_i s2 h2 <;> rw [h2] at e2
      · exact e2.trans e
      · exact (freeRecord_ports s2 n).trans (e2.trans e)

@[simp] theorem appendBytes_ports (m a r : Nat) (l : List Byte) : ((s.appendBytes m a r l).1).ports = s.ports := by
  induction l generalizing s a r with
  | nil => rfl
  | cons b l ih =>
    unfold State.appendBytes
    dsimp only
    split
    · rfl
    · split
      · split
        · rw [ih]; exact allocPages_ports ..
        · exact allocPages_ports ..
      · split
        · exact ih ..
        · rfl

@[simp] theorem withdrawSending_ports (n : Nat) : (s.withdrawSending n).ports = s.ports := rfl

@[simp] theorem holdSet_ports (n : Nat) : (s.holdSet n).ports = s.ports := rfl

@[simp] theorem raiseHolds_ports (n : Nat) : (s.raiseHolds n).ports = s.ports := by
  unfold State.raiseHolds
  try dsimp only
  all_goals (repeat' split) <;> first | rfl | simp

@[simp] theorem setConsoleHold_ports (n : Nat) (v : Bool) : (s.setConsoleHold n v).ports = s.ports := by
  unfold State.setConsoleHold
  try dsimp only
  all_goals (repeat' split) <;> first | rfl | simp

@[simp] theorem raiseLostHolds_ports (o : Option Station) : (s.raiseLostHolds o).ports = s.ports := by
  unfold State.raiseLostHolds
  try dsimp only
  all_goals (repeat' split) <;> first | rfl | simp

@[simp] theorem writeStation_ports (e : Nat) (c : StationCfg) : (s.writeStation e c).ports = s.ports := by
  unfold State.writeStation
  try dsimp only
  all_goals (repeat' split) <;> first | rfl | simp

@[simp] theorem clearMarks_ports (n : Nat) : (s.clearMarks n).ports = s.ports := rfl

@[simp] theorem recomputeAreas_ports : (s.recomputeAreas).ports = s.ports := rfl

@[simp] theorem takeFix_ports (a b : Int) (c : FixSource) : (s.takeFix a b c).ports = s.ports := rfl

@[simp] theorem positionStale_ports : (s.positionStale).ports = s.ports := by
  unfold State.positionStale
  try dsimp only
  all_goals (repeat' split) <;> first | rfl | simp

@[simp] theorem rechooseWatch_ports : (s.rechooseWatch).ports = s.ports := by
  unfold State.rechooseWatch
  try dsimp only
  all_goals (repeat' split) <;> first | rfl | simp

@[simp] theorem windowGranted_ports (c : Claim) : (s.windowGranted c).ports = s.ports := ports_of_frame (windowGranted_frame s c)

@[simp] theorem openWindow_ports (w : Window) : (s.openWindow w).ports = s.ports := by
  unfold State.openWindow
  dsimp only
  have g (u : State) : u.giveWay.ports = u.ports := ports_of_frame (giveWay_frame u)
  (repeat' split) <;> simp [g]

@[simp] theorem takeOccurrence_ports (e : Nat) (c : ScheduleCfg) (d : Int) : (s.takeOccurrence e c d).ports = s.ports := by
  unfold State.takeOccurrence
  try dsimp only
  all_goals (repeat' split) <;> first | rfl | simp

@[simp] theorem scheduleDue_ports (e : Nat) : (s.scheduleDue e).ports = s.ports := by
  unfold State.scheduleDue
  try dsimp only
  all_goals (repeat' split) <;> first | rfl | simp

@[simp] theorem saveTally_ports : (s.saveTally).ports = s.ports := rfl

@[simp] theorem reported_ports (sp : Span) : (s.reported sp).ports = s.ports := rfl

@[simp] theorem defer_ports (t : Trigger) : (s.defer t).ports = s.ports := by
  unfold State.defer
  try dsimp only
  all_goals (repeat' split) <;> first | rfl | simp

@[simp] theorem compose_ports (t : Trigger) (a : Nat) : ((s.compose t a).1).ports = s.ports := by
  unfold State.compose
  dsimp only
  split <;> rename_i s1 h <;> have e := congrArg (fun x => x.2.ports) h <;> dsimp only at e <;> rw [allocText_ports] at e
  · exact (reported_ports s1 _).trans e.symm
  · exact (defer_ports s1 t).trans e.symm

@[simp] theorem requeueReport_ports (n : Nat) : (s.requeueReport n).ports = s.ports := rfl

@[simp] theorem pollPending_ports (n : Nat) : (s.pollPending n).ports = s.ports := by
  unfold State.pollPending
  try dsimp only
  all_goals (repeat' split) <;> first | rfl | simp

@[simp] theorem pollEach_ports (l : List Nat) : (l.foldl State.pollPending s).ports = s.ports := foldl_ports s _ (fun s n => pollPending_ports s n) l

@[simp] theorem trigger_ports (t : Trigger) : ((s.trigger t).1).ports = s.ports := by
  unfold State.trigger
  try dsimp only
  all_goals (repeat' split) <;> first | rfl | simp

@[simp] theorem reportDue_ports : (s.reportDue).ports = s.ports := by
  unfold State.reportDue
  try dsimp only
  all_goals (repeat' split) <;> first | rfl | simp

@[simp] theorem testCalendar_ports : (s.testCalendar).ports = s.ports := by
  unfold State.testCalendar
  rw [reportDue_ports]
  exact foldl_ports s _ (fun s n => scheduleDue_ports s n) _

@[simp] theorem shiftTimers_ports (d : Time) : (s.shiftTimers d).ports = s.ports := rfl

@[simp] theorem takeNothingPast_ports : (s.takeNothingPast).ports = s.ports := rfl

@[simp] theorem loadClock_ports (v : Time) (c : ClockSource) : (s.loadClock v c).ports = s.ports := by
  unfold State.loadClock
  try dsimp only
  all_goals (repeat' split) <;> first | rfl | simp

@[simp] theorem ageRegister_ports : (s.ageRegister).ports = s.ports := rfl

@[simp] theorem raiseEach_ports (l : List Notice) : (l.foldl State.raise s).ports = s.ports := foldl_ports s State.raise (fun _ _ => rfl) l

@[simp] theorem evaluateSpecies_ports (c : List Byte) (h : Option Nat) : (s.evaluateSpecies c h).ports = s.ports := by
  unfold State.evaluateSpecies
  try dsimp only
  all_goals (repeat' split) <;> first | rfl | simp

@[simp] theorem claimDistress_ports : (s.claimDistress).ports = s.ports := by
  unfold State.claimDistress
  try dsimp only
  all_goals (repeat' split) <;> first | rfl | simp

@[simp] theorem initiate_ports (n : Nature) (p : Nat) : (s.initiate n p).ports = s.ports := by
  unfold State.initiate
  try dsimp only
  all_goals (repeat' split) <;> first | rfl | simp

@[simp] theorem updateAlert_ports (n : Nature) (p : Nat) : (s.updateAlert n p).ports = s.ports := by
  unfold State.updateAlert
  try dsimp only
  all_goals (repeat' split) <;> first | rfl | simp

@[simp] theorem stopCycle_ports (o : LogOutcome) : (s.stopCycle o).ports = s.ports := by
  unfold State.stopCycle
  try dsimp only
  all_goals (repeat' split) <;> first | rfl | simp

@[simp] theorem cancelAlert_ports : (s.cancelAlert).ports = s.ports := by
  unfold State.cancelAlert
  try dsimp only
  all_goals (repeat' split) <;> first | rfl | simp

@[simp] theorem closeAlert_ports : (s.closeAlert).ports = s.ports := by
  unfold State.closeAlert
  try dsimp only
  all_goals (repeat' split) <;> first | rfl | simp

@[simp] theorem raiseReceived_ports (n : Nat) : (s.raiseReceived n).ports = s.ports := rfl

@[simp] theorem ackAlarm_ports (p : Port) (n : Nat) : (s.ackAlarm p n).ports = s.ports := by
  unfold State.ackAlarm
  try dsimp only
  all_goals (repeat' split) <;> first | rfl | simp

@[simp] theorem watchStep_ports : (s.watchStep).ports = s.ports := by
  unfold State.watchStep
  try dsimp only
  all_goals (repeat' split) <;> first | rfl | simp

@[simp] theorem restoreMain_ports : (s.restoreMain).ports = s.ports := by
  unfold State.restoreMain
  try dsimp only
  all_goals (repeat' split) <;> first | rfl | simp

@[simp] theorem restoreWatch_ports : (s.restoreWatch).ports = s.ports := by
  unfold State.restoreWatch
  try dsimp only
  all_goals (repeat' split) <;> first | rfl | simp

end Sys2Proof.Machine
end

