-- ==== Sys2Proof/Laws/Exchange.lean ====
section
/-! SUPPORT. Requests whose effects reach other blocks, and states in which the blocks have nothing to do. -/

namespace Sys2Proof.Machine

/-- With no message and nothing to attend to, the blocks do nothing. -/
theorem work_quiet {s : State} (hm : s.msgs = []) (ha : s.attend = none) : s.work = s := by
  unfold State.work
  rw [show Config.messageBound = 511 + 1 from rfl]
  unfold State.settle
  rw [hm, ha]

/-- What the engine attends to does not depend on the ports. -/
theorem attend_taken {s : State} (r : Req) (ha : s.attend = none) : (s.taken r).attend = none := by
  have e1 : (s.taken r).phase = s.phase := rfl
  have e2 : (s.taken r).staleChoice = s.staleChoice := rfl
  have e3 : (s.taken r).wantsWatch = s.wantsWatch := rfl
  have e4 : (s.taken r).main = s.main := rfl
  have e5 : (s.taken r).holds_ .watch = s.holds_ .watch := rfl
  have e6 : (s.taken r).waits .watch = s.waits .watch := rfl
  have e7 : (s.taken r).watchEntry = s.watchEntry := rfl
  have e8 : (s.taken r).link = s.link := rfl
  unfold State.attend at ha ⊢
  rw [e1, e2, e3, e4, e5, e6, e7, e8]
  by_cases c1 : s.phase ≠ .running
  · rw [if_pos c1]
  rw [if_neg c1] at ha ⊢
  by_cases c2 : s.staleChoice = true
  · rw [if_pos c2] at ha; exact absurd ha (by simp)
  rw [if_neg c2] at ha ⊢
  split at ha
  · exact absurd ha (by simp)
  · rename_i c3
    rw [if_neg c3]
    split at ha
    · exact absurd ha (by simp)
    · rename_i c4
      rw [if_neg c4]

/-- A request whose effects reach other blocks. -/
theorem command_next {s : State} {k : ReqKind} {r : Req} (h : s.Settled) (hp : s.Passes k r) (hk : ∀ n, k ≠ .other n)
    (f : State → State × Answer) :
    command k r s f = .next (((f (s.taken r)).1.work.reply k r (f (s.taken r)).2).seal s.pending) :=
  requestWith_next h hp hk _ f

/-- A request whose rule refuses it changes nothing. -/
theorem command_refused {s : State} {k : ReqKind} {r : Req} {a : Answer} (h : s.Settled) (hp : s.Passes k r)
    (hk : ∀ n, k ≠ .other n) (ha : s.attend = none) (f : State → State × Answer) (hf : f (s.taken r) = (s.taken r, a)) :
    command k r s f = .next (s.answered k r a []) := by
  rw [command_next h hp hk, hf]
  rw [work_quiet (s := s.taken r) h.1 (attend_taken r ha)]
  exact congrArg _ (reply_seal_nil k r a h)

/-- A request of one block that its rule refuses changes nothing. -/
theorem localRequest_refused {s : State} {k : ReqKind} {r : Req} {a : Answer} (h : s.Settled) (hp : s.Passes k r)
    (hk : ∀ n, k ≠ .other n) (f : State → State × Answer) (hf : f (s.taken r) = (s.taken r, a)) :
    localRequest k r s f = .next (s.answered k r a []) := by
  unfold localRequest
  rw [requestWith_next h hp hk, hf]
  exact congrArg _ (reply_seal_nil k r a h)

@[simp] theorem record_taken (s : State) (r : Req) (n : Nat) : (s.taken r).record n = s.record n := rfl

/-- Reclaim does not depend on the receivers of the ports. -/
@[simp] theorem victim_taken (s : State) (r : Req) : (s.taken r).victim = s.victim := by
  obtain ⟨p, _, _⟩ := r
  cases p <;> rfl

/-! ### Tables -/

theorem find_upd {α : Type} (t : Table α) (n m : Nat) (f : α → α) :
    (t.upd n f).find m = if m = n then (t.find m).map f else t.find m := by
  induction t with
  | nil => simp [Table.upd, Table.find]
  | cons e t ih =>
    obtain ⟨k, v⟩ := e
    unfold Table.upd at ih ⊢
    rw [List.map_cons]
    by_cases h1 : k = n <;> by_cases h2 : k = m <;> simp_all [Table.find]

theorem upd_upd {α : Type} (t : Table α) (n : Nat) (f g : α → α) : (t.upd n f).upd n g = t.upd n fun x => g (f x) := by
  unfold Table.upd
  rw [List.map_map]
  apply List.map_congr_left
  intro e _
  by_cases h : e.1 = n <;> simp [h]

theorem find_put_self {α : Type} (t : Table α) (n : Nat) (v : α) : (t.put n v).find n = some v := by
  induction t with
  | nil => simp [Table.put, Table.find]
  | cons e t ih =>
    obtain ⟨k, w⟩ := e
    unfold Table.put
    split
    · simp [Table.find]
    · split
      · simp [Table.find]
      · have : k ≠ n := fun h => by simp_all
        simp [Table.find, this, ih]

theorem find_put_ne {α : Type} (t : Table α) (n m : Nat) (v : α) (h : m ≠ n) : (t.put n v).find m = t.find m := by
  induction t with
  | nil => simp [Table.put, Table.find, Ne.symm h]
  | cons e t ih =>
    obtain ⟨k, w⟩ := e
    unfold Table.put
    split
    · simp [Table.find, Ne.symm h]
    · split
      · rename_i h2; subst h2; simp [Table.find, Ne.symm h]
      · simp [Table.find, ih]

theorem find_del_self {α : Type} (t : Table α) (n : Nat) : (t.del n).find n = none := by
  unfold Table.del
  induction t with
  | nil => rfl
  | cons e t ih =>
    obtain ⟨k, w⟩ := e
    by_cases h : k = n <;> simp_all [Table.find]

theorem find_del_ne {α : Type} (t : Table α) (n m : Nat) (h : m ≠ n) : (t.del n).find m = t.find m := by
  unfold Table.del
  induction t with
  | nil => rfl
  | cons e t ih =>
    obtain ⟨k, w⟩ := e
    by_cases h2 : k = n <;> by_cases h3 : k = m <;> simp_all [Table.find]

end Sys2Proof.Machine
end

