-- ==== Sys2Proof/Laws/Store.lean ====
section
/-! SUPPORT. The message store's operations and the requests about messages, each with all it can do. -/

namespace Sys2Proof.Machine

/-- Nothing that may be reclaimed: the state stays (R8). -/
theorem reclaimFor_none (s : State) (ok : State → Bool) (h : s.victim = none) : s.reclaimFor ok = s := by
  unfold State.reclaimFor
  cases s.store.recs.length <;> simp [State.reclaim, h]

/-- An allocation that the pool allows at once reclaims nothing (R8). -/
theorem reclaimFor_ok (s : State) (ok : State → Bool) (h : ok s = true) : s.reclaimFor ok = s := by
  unfold State.reclaimFor
  cases s.store.recs.length <;> simp [State.reclaim, h]

/-- The STORE-LOW test changes the armed flag and may raise the notice (R9). -/
theorem storeLowTest_eq (s : State) : s.storeLowTest = { s with
    store.lowArmed := if s.store.lowArmed then decide (128 ≤ s.store.free.length) else decide (192 ≤ s.store.free.length)
    raised := s.raised ++ if s.store.lowArmed ∧ s.store.free.length < 128 then [.storeLow] else [] } := by
  unfold State.storeLowTest State.freePages Config.lowBelow Config.lowArmAt
  have self : ∀ b, s.store.lowArmed = b → { s with store.lowArmed := b, raised := s.raised ++ [] } = s := by
    rintro _ rfl; simp only [List.append_nil]
  cases h : s.store.lowArmed
  · by_cases c : 192 ≤ s.store.free.length
    · simp [c]
    · simp only [c, Bool.false_eq_true, if_false, false_and, decide_false, self _ h]
  · by_cases c : 128 ≤ s.store.free.length
    · simp only [c, Nat.not_lt.2 c, if_false, if_true, and_false, decide_true, self _ h]
    · simp [c, Nat.not_le.1 c, State.raise]

/-- What the STORE-LOW test can do, when only its outcome matters (R9). -/
theorem storeLow_cases (s : State) : ∃ low ns, s.storeLowTest = { s with store.lowArmed := low, raised := s.raised ++ ns } ∧
    (ns = [] ∨ ns = [Notice.storeLow]) ∧ (s.store.lowArmed = false → ns = []) ∧ (s.store.lowArmed = false → s.store.free.length < 192 → low = false) ∧
    (ns ≠ [] → low = false ∧ s.store.free.length < 192) := by
  unfold State.storeLowTest State.freePages Config.lowBelow Config.lowArmAt
  split
  · rename_i h
    split
    · rename_i h2
      refine ⟨false, [.storeLow], rfl, .inr rfl, by simp [h], by simp, fun _ => ⟨rfl, by omega⟩⟩
    · exact ⟨true, [], by simp [← h], .inl rfl, by simp, by simp [h], by simp⟩
  · rename_i h
    have h : s.store.lowArmed = false := by simpa using h
    split
    · rename_i h2
      exact ⟨true, [], by simp, .inl rfl, by simp, fun _ h3 => by omega, by simp⟩
    · exact ⟨false, [], by simp [← h], .inl rfl, by simp, by simp, by simp⟩

/-- The fields that a freed record leaves, when it is held (R7). -/
theorem freeRecord_held {s : State} {n : Nat} {m : MsgRec} (h : s.record n = some m) :
    s.freeRecord n = { s with
      store.recs := s.store.recs.del n, store.free := s.store.free ++ m.pages
      bcast.register := s.bcast.register.map (RegEntry.forget n)
      catch_.overdue := s.catch_.overdue.del n }.storeLowTest := by
  simp only [State.freeRecord, h]

/-- APPEND's bytes are all added when the text and the pool have room (R15). -/
theorem append_all (n : Nat) (bytes : List Byte) : ∀ (u : State) (m : MsgRec) (a c : Nat), u.record n = some m →
    m.textLen + bytes.length ≤ 3072 →
    (m.textLen + bytes.length + 63) / 64 - (m.textLen + 63) / 64 + 64 ≤ u.store.free.length →
    ∃ low ns, (ns = [] ∨ ns = [Notice.storeLow]) ∧ (u.store.lowArmed = false → u.store.free.length < 192 → ns = []) ∧
     u.appendBytes n a c bytes = ({ u with
        store.free := u.store.free.drop ((m.textLen + bytes.length + 63) / 64 - (m.textLen + 63) / 64)
        store.recs := u.store.recs.upd n fun x => { x with text := x.text ++ bytes.map normByte, textLen := x.textLen + bytes.length, pages := x.pages ++ u.store.free.take ((m.textLen + bytes.length + 63) / 64 - (m.textLen + 63) / 64) }
        store.lowArmed := low
        raised := u.raised ++ ns }, a + bytes.length, c + bytes.countP replacedByte, .all) := by
  induction bytes with
  | nil =>
    intro u m a c hm _ _
    refine ⟨u.store.lowArmed, [], .inl rfl, fun _ _ => rfl, ?_⟩
    have : u.store.recs.upd n (fun x => x) = u.store.recs := by
      unfold Table.upd
      refine (List.map_congr_left ?_).trans (List.map_id _)
      intro e _; split <;> rfl
    simp [State.appendBytes, this]
  | cons b bytes ih =>
    intro u m a c hm hl hf
    rw [List.length_cons] at hl hf ⊢
    have len : (u.record n).elim 0 (·.textLen) = m.textLen := by simp [hm]
    unfold State.appendBytes
    simp only [len]
    rw [if_neg (by show ¬ (3072 ≤ m.textLen); omega)]
    by_cases h64 : m.textLen % 64 = 0
    · rw [if_pos (show m.textLen % Config.pageBytes = 0 from h64)]
      have ok : u.pagesOk .ordinary 1 = true := by
        simp only [State.pagesOk, Config.pageReserve, State.freePages]; apply decide_eq_true
        have : (m.textLen + (bytes.length + 1) + 63) / 64 - (m.textLen + 63) / 64 ≥ 1 := by omega
        omega
      obtain ⟨low, ns, e, hn1, hn2, hn3, hn4⟩ := storeLow_cases ({ u with store.free := u.store.free.drop 1 }.updRecord n fun r => { r with pages := r.pages ++ u.store.free.take 1 })
      have al : u.allocPages .ordinary 1 n = (true, ({ u with store.free := u.store.free.drop 1 }.updRecord n fun r => { r with pages := r.pages ++ u.store.free.take 1 }).storeLowTest) := by
        unfold State.allocPages
        rw [reclaimFor_ok _ _ ok]
        dsimp only
        rw [if_pos ok]
      rw [al]
      dsimp only
      rw [if_pos rfl, e]
      simp only [updRecord_raised] at *
      have hrec : (({ ({ u with store.free := u.store.free.drop 1 }.updRecord n fun r => { r with pages := r.pages ++ u.store.free.take 1 }) with store.lowArmed := low, raised := u.raised ++ ns } : State).updRecord n (MsgRec.addByte b)).record n = some (MsgRec.addByte b { m with pages := m.pages ++ u.store.free.take 1 }) := by
        simp only [State.record, State.updRecord, find_upd, if_true]
        rw [show u.store.recs.find n = some m from hm]; rfl
      have ll : (u.store.free.drop 1).length = u.store.free.length - 1 := by simp
      have big : (m.textLen + (bytes.length + 1) + 63) / 64 - (m.textLen + 63) / 64 = 1 + ((m.textLen + 1 + bytes.length + 63) / 64 - (m.textLen + 1 + 63) / 64) := by omega
      obtain ⟨low2, ns2, i1, i2, i3⟩ := ih _ _ (a+1) (c + if replacedByte b = true then 1 else 0) hrec (by simp only [MsgRec.addByte]; omega) (by
        simp only [MsgRec.addByte, State.updRecord, ll]; omega)
      refine ⟨low2, ns ++ ns2, ?_, ?_, ?_⟩
      · rcases hn1 with rfl | rfl
        · simpa using i1
        · obtain ⟨h5, h6⟩ := hn4 (by simp)
          right
          rw [i2 (by simpa [State.updRecord] using h5) (by simpa [State.updRecord] using h6)]; rfl
      · intro h1 h2
        have n0 : ns = [] := hn2 h1
        have := hn3 h1 (by simp only [State.updRecord, ll]; omega)
        rw [n0, i2 (by simp [State.updRecord, this]) (by simp only [State.updRecord, ll]; omega)]; rfl
      · rw [i3]
        simp only [MsgRec.addByte, State.updRecord, upd_upd, Prod.mk.injEq, and_true]
        refine ⟨?_, by omega, ?_⟩
        · rw [big]
          have hd : ∀ k, (u.store.free.drop 1).drop k = u.store.free.drop (1 + k) := fun k => by rw [List.drop_drop]
          have ht : ∀ k, u.store.free.take 1 ++ (u.store.free.drop 1).take k = u.store.free.take (1 + k) := fun k => (List.take_add ..).symm
          have hq : ∀ x : Nat, x + 1 + bytes.length = x + (bytes.length + 1) := fun x => by omega
          simp only [hd, ht, List.append_assoc, List.map_cons, List.singleton_append, hq]
        · simp only [List.countP_cons]; omega
    · rw [if_neg (show ¬ m.textLen % Config.pageBytes = 0 from h64)]
      dsimp only
      rw [if_pos rfl]
      have hrec : (u.updRecord n (MsgRec.addByte b)).record n = some (MsgRec.addByte b m) := by
        simp only [State.record, State.updRecord, find_upd, if_true]
        rw [show u.store.recs.find n = some m from hm]; rfl
      have big : (m.textLen + (bytes.length + 1) + 63) / 64 - (m.textLen + 63) / 64 = ((m.textLen + 1 + bytes.length + 63) / 64 - (m.textLen + 1 + 63) / 64) := by omega
      obtain ⟨low2, ns2, i1, i2, i3⟩ := ih _ _ (a+1) (c + if replacedByte b = true then 1 else 0) hrec (by simp only [MsgRec.addByte]; omega) (by
        simp only [MsgRec.addByte, State.updRecord]; omega)
      refine ⟨low2, ns2, i1, i2, ?_⟩
      rw [i3]
      simp only [MsgRec.addByte, State.updRecord, upd_upd, Prod.mk.injEq, and_true]
      refine ⟨?_, by omega, ?_⟩
      · rw [big]
        have hq : ∀ x : Nat, x + 1 + bytes.length = x + (bytes.length + 1) := fun x => by omega
        simp only [List.append_assoc, List.map_cons, List.singleton_append, hq]
      · simp only [List.countP_cons]; omega

/-! ### Requests about a message -/

theorem own_take {s : State} {r : Req} {n m} (f) (hm : s.record n = some m) (ho : m.orig = .port r.port) : (s.taken r).onOwnMessage r.port n f = f m := by
  simp [State.onOwnMessage, State.onMessage, hm, ho]

theorem own_none {s : State} {r : Req} {n} (f) (hm : s.record n = none) : (s.taken r).onOwnMessage r.port n f = (s.taken r, plain .notFound) := by
  simp [State.onOwnMessage, State.onMessage, hm]

theorem own_not {s : State} {r : Req} {n m} (f) (hm : s.record n = some m) (ho : m.orig ≠ .port r.port) : (s.taken r).onOwnMessage r.port n f = (s.taken r, plain .notOwner) := by
  simp [State.onOwnMessage, State.onMessage, hm, ho]

theorem read_take {s : State} {r : Req} {n m} (f) (hm : s.record n = some m) (ho : s.holds r.port m.cls.readGrant = true) : (s.taken r).onReadable r.port n f = f m := by
  simp [State.onReadable, State.onMessage, hm, ho]

theorem read_none {s : State} {r : Req} {n} (f) (hm : s.record n = none) : (s.taken r).onReadable r.port n f = (s.taken r, plain .notFound) := by
  simp [State.onReadable, State.onMessage, hm]

theorem read_not {s : State} {r : Req} {n m} (f) (hm : s.record n = some m) (ho : s.holds r.port m.cls.readGrant = false) : (s.taken r).onReadable r.port n f = (s.taken r, plain .refusedGrant) := by
  simp [State.onReadable, State.onMessage, hm, ho]

theorem calm_store {s t : State} (h : t.calm = s.calm) : t.store = s.store := by
  have : t.calm.store = s.calm.store := by rw [h]
  exact this

theorem query_with {s : State} {k : ReqKind} {r : Req} {a : Answer} (h : s.Settled) (hp : s.Passes k r) (hk : ∀ n, k ≠ .other n)
    (f : State → Answer) (hf : f (s.taken r) = a) : query k r s f = .next (s.answered k r a []) := by
  unfold query; exact localRequest_refused h hp hk _ (by simp only [hf])

end Sys2Proof.Machine
end

