-- ==== Sys2Proof/Laws/Blocks.lean ====
section
/-! SUPPORT. What shared operations of the blocks do: table entries, draws and waits, tunes told to their requesters, airtime
given up, records held back, and entries of the log completed together. -/

namespace Sys2Proof.Machine

/-! ### Tables and records -/

/-- An entry after a change. -/
theorem mem_upd {α} {t : Table α} {n : Nat} {f : α → α} {e : Nat × α} (h : e ∈ t.upd n f) : (e ∈ t ∧ e.1 ≠ n) ∨ (e.1 = n ∧ ∃ x, (n, x) ∈ t ∧ e.2 = f x) := by
  unfold Table.upd at h
  rw [List.mem_map] at h
  obtain ⟨a, ha, rfl⟩ := h
  by_cases c : a.1 = n
  · right
    rw [if_pos c]
    exact ⟨c, a.2, by rw [← c]; exact ha, rfl⟩
  · left
    simp [c, ha]

/-- An entry left after another is emptied. -/
theorem mem_del {α} {t : Table α} {n : Nat} {e : Nat × α} (h : e ∈ t.del n) : e ∈ t ∧ e.1 ≠ n := by
  unfold Table.del at h
  rw [List.mem_filter] at h
  simpa using h

/-- The records left when one is freed (R7). -/
theorem freeRecord_recs (s : State) (n : Nat) : (s.freeRecord n).store.recs = if (s.record n).isSome then s.store.recs.del n else s.store.recs := by
  unfold State.freeRecord
  cases h : s.record n
  · rfl
  · simp only [Option.isSome_some, if_true]
    unfold State.storeLowTest
    split <;> split <;> rfl

/-- An entry of a table is found under its number. -/
theorem find_isSome_of_mem {α} {t : Table α} {n : Nat} {x : α} (h : (n, x) ∈ t) : (t.find n).isSome = true := by
  induction t with
  | nil => cases h
  | cons a l ih =>
    obtain ⟨k, v⟩ := a
    unfold Table.find
    split
    · rfl
    · rename_i hk
      rcases List.mem_cons.1 h with h | h
      · injection h with h1 h2; exact absurd h1.symm hk
      · exact ih h

/-- The Q of the listed channels returns to its start (R109). -/
theorem foldl_startQ (l : List Nat) : ∀ s : State, l.foldl (fun t n => t.updChannel n fun c => { c with q := Config.startQ }) s = { s with
        dir.channels := s.dir.channels.map fun (c : Nat × Channel) =>
          if c.1 ∈ l then (c.1, { c.2 with q := 500 }) else c } := by
  induction l with
  | nil => intro s; simp
  | cons n l ih =>
    intro s; rw [List.foldl_cons, ih]
    simp only [State.updChannel, State.mk.injEq, Directory.mk.injEq, true_and, and_true, Table.upd, List.map_map]
    apply List.map_congr_left
    intro e he
    simp only [Function.comp]
    by_cases h : e.1 = n <;> by_cases h2 : e.1 ∈ l <;> simp [h, h2]
    all_goals try (rw [h] at h2; simp [h2])
    all_goals rfl

/-- A station after a change that keeps its number. -/
theorem stationOf_updStation (u : State) (n : Nat) (f : Station → Station) (hf : ∀ st, (f st).cfg.number = st.cfg.number) :
    (u.updStation n f).stationOf n = (u.stationOf n).map f := by
  unfold State.stationOf State.entryOf State.updStation
  dsimp only
  induction u.dir.stations with
  | nil => rfl
  | cons e l ih =>
    simp only [List.map_cons, List.find?_cons]
    by_cases h : e.2.cfg.number = n
    · simp [h, hf]
    · have : (e.2.cfg.number == n) = false := by simpa using h
      simp only [h, if_false, this]; exact ih

/-! ### Time -/

/-- A timer that expires moves ship time to its target unless it has passed (R42; log entry 1). -/
theorem waitUntil_eq (s : State) (t : Time) : s.waitUntil t = { s with time.now := if passed s.time.now t then s.time.now else t } := by
  unfold State.waitUntil; split <;> rfl

/-- A draw steps the generator once (R46). -/
theorem draw_eq (s : State) (k : Nat) : s.draw k = ((1664525#32 * s.time.prng + 1013904223#32).toNat / 65536 % k, { s with time.prng := 1664525#32 * s.time.prng + 1013904223#32 }) := by
  simp only [State.draw]

/-- A draw, with the next value of the generator named (R46). -/
theorem draw_of (s : State) (k : Nat) (x : BitVec 32) (h : 1664525#32 * s.time.prng + 1013904223#32 = x) : s.draw k = (x.toNat / 65536 % k, { s with time.prng := x }) := by
  rw [draw_eq, h]

/-- Closing a rotation leaves the time unit alone. -/
theorem closeRotation_time (s : State) (o) : (s.closeRotation o).time = s.time := by
  unfold State.closeRotation; split <;> rfl

/-- A time some seconds from now. -/
theorem after_eq (s : State) (n : Nat) : s.after n = s.time.now + BitVec.ofNat 32 n := rfl

/-- A rotation of an alert ends with its drawn wait, and with NO-CHANNEL when nothing was sent (R169). -/
theorem endRotation_waits (s : State) (h : s.distress.state ≠ .cancelling) (x : BitVec 32) (hx : 1664525#32 * s.time.prng + 1013904223#32 = x) :
   s.endRotation = (fun W : State => if s.distress.sent = 0 then W.raiseOwn .noChannel else W) { s.closeRotation s.rotationOutcome with time.prng := x, distress.rotating := false, distress.nextCycle := some (s.time.now + BitVec.ofNat 32 (210 + x.toNat / 65536 % 61)) } := by
  unfold State.endRotation
  rw [if_neg h, draw_of _ _ x (by show 1664525#32 * (s.closeRotation s.rotationOutcome).time.prng + _ = _; rw [closeRotation_time]; exact hx)]
  dsimp only
  rw [after_eq]
  dsimp only
  rw [closeRotation_time, show Config.cycleSeconds = 210 from rfl, show Config.cycleDraw = 61 from rfl]

/-! ### Radio and airtime -/

/-- What is told of the bursts that a failed tune drops: one FAULT to the holder, unless it asked for the tune (R187). -/
theorem tellDropped_eq (u : State) (t : Tune) (l : List Burst) : u.tellDropped t l = { u with msgs := u.msgs ++ (match u.arb.holder with | some h => if l = [] ∨ t.requester = some h then [] else [.tuned h false (!u.main.inService)] | none => []) } := by
  unfold State.tellDropped
  cases u.arb.holder with
  | none => simp
  | some h =>
    have : (l.isEmpty || t.requester == some h) = true ↔ (l = [] ∨ t.requester = some h) := by simp [List.isEmpty_iff]
    by_cases c : l = [] ∨ t.requester = some h
    · simp only [if_pos c, if_pos (this.2 c), List.append_nil]
    · simp only [if_neg c, if_neg (fun x => c (this.1 x))]; rfl

/-- The end of a tune is told to its requester, if it still holds airtime (R184). -/
theorem handTune_eq (u : State) (t : Tune) (b : Bool) : u.handTune t b = { u with msgs := u.msgs ++ (match t.requester with | some c => [Msg.tuned c b (!u.main.inService)] | none => []) } := by
  unfold State.handTune
  cases t.requester with
  | none => simp
  | some c => rfl

/-- Working down the waiting list changes the distress unit by a GRANTED alone (R191, R195). -/
theorem grantFrom_distress (l : List Claim) : ∀ s : State, ∃ g, (s.grantFrom l).distress = { s.distress with granted := g } := by
  induction l with
  | nil => exact fun s => ⟨s.distress.granted, rfl⟩
  | cons c l ih =>
    intro s; rw [State.grantFrom]; split
    · unfold State.afterGrant State.grant
      dsimp only
      split <;> split <;> first | exact ⟨_, rfl⟩ | (split <;> exact ⟨_, rfl⟩)
    · obtain ⟨g, h⟩ := ih (s.post (.refused c)); exact ⟨g, h⟩

/-- Dropping tune and bursts leaves the distress unit alone (R193). -/
theorem dropRadio_distress (s : State) : s.dropRadio.distress = s.distress := by
  unfold State.dropRadio; dsimp only; split <;> rfl

/-- Giving airtime up changes the distress unit by its marks alone (R174). -/
theorem releaseDistress_distress (s : State) : ∃ g, s.releaseDistress.distress = { s.distress with granted := g, releaseAfter := false, grantAfter := false } := by
  unfold State.releaseDistress State.giveUp
  split
  · unfold State.release State.grantNext
    obtain ⟨g, h⟩ := grantFrom_distress _ { (State.dropRadio { s with distress.granted := false, distress.releaseAfter := false, distress.grantAfter := false }) with arb.holder := none, arb.yieldAsked := false }
    refine ⟨g, h.trans ?_⟩
    rw [show ({ (State.dropRadio { s with distress.granted := false, distress.releaseAfter := false, distress.grantAfter := false }) with arb.holder := none, arb.yieldAsked := false } : State).distress = (State.dropRadio { s with distress.granted := false, distress.releaseAfter := false, distress.grantAfter := false }).distress from rfl, dropRadio_distress]
  · exact ⟨false, rfl⟩

/-! ### Records held back -/

/-- What a hold does to the store and to the session, in closed form (R86, R95). -/
theorem holdSet_eq (s : State) (number : Nat) : s.holdSet number = { s with
    store.recs := s.store.recs.map fun e => if e.1 ∈ s.heldBack number then (e.1, { e.2 with state := .queued }) else e
    link.session := s.link.session.map fun (e : Session) =>
      { e with
        outMsg := e.outMsg.filter fun m => decide (m.1 ∉ s.heldBack number)
        aborts := e.aborts ++ ((e.outMsg.filter fun m => decide (m.1 ∈ s.heldBack number)).map fun m => (m.1, false)).toList
        inFlight := e.inFlight.map fun (f : Flight) =>
          if f.ends.any (fun n => decide (n ∈ s.heldBack number)) = true then { f with ends := none } else f
        later := e.later ++ (e.inFlight.filterMap fun (f : Flight) => f.ends).filter fun n => decide (n ∈ s.heldBack number) } } := by
  have hc : (s.heldBack number).contains = fun n => decide (n ∈ s.heldBack number) := by
    funext n; exact List.contains_eq_mem ..
  unfold State.holdSet Session.part
  simp only [hc, List.contains_eq_mem, decide_eq_true_eq, ← decide_not]

/-! ### Log entries completed together -/

/-- The entries of bulletins and windows that a cut completes, with their error figures (R124, R130). -/
def figuresOf (l : List Window) : List (Half × Option Nat) := l.flatMap fun w =>
        (w.rx.bulletin.map fun b => (b.entry, some (1000 * b.errored / b.frames))).toList ++
          [(w.logEntry, if w.rx.settled = 0 then none else some (1000 * w.rx.errored / w.rx.settled))]

/-- A log entry completed LOST by the first of such entries that names it (R24). -/
def cutEntry (now : Time) (F : List (Half × Option Nat)) (e : LogEntry) : LogEntry :=
  if e.ended then e else match F.find? fun f => f.1 == e.number with
    | some f => e.complete now .lost none f.2
    | none => e

/-- Completing entries one after another completes each open one once (R24). -/
theorem foldl_logComplete_lost (F : List (Half × Option Nat)) : ∀ u : State, F.foldl (fun t f => t.logComplete f.1 .lost none f.2) u = { u with log.entries := u.log.entries.map (cutEntry u.time.now F) } := by
  induction F with
  | nil =>
    intro u
    have : u.log.entries.map (cutEntry u.time.now []) = u.log.entries := by
      refine (List.map_congr_left ?_).trans (List.map_id _)
      intro e _; unfold cutEntry; split <;> simp
    rw [List.foldl_nil, this]
  | cons f F ih =>
    intro u
    rw [List.foldl_cons, ih]
    unfold State.logComplete
    simp only [State.mk.injEq, TrafficLog.mk.injEq, true_and, and_true, List.map_map]
    apply List.map_congr_left
    intro e _
    simp only [Function.comp]
    unfold cutEntry
    by_cases h : e.ended = true
    · simp [h]
    · have h : e.ended = false := by simpa using h
      by_cases hn : e.number = f.1
      · have h2 : (f.1 == e.number) = true := by simp [hn]
        rw [List.find?_cons, h2]
        simp only [hn, h, decide_true, Bool.not_false, Bool.and_self, if_true]
        simp [LogEntry.complete]
      · have h2 : (f.1 == e.number) = false := by simpa using fun x => hn x.symm
        rw [List.find?_cons, h2]
        simp [hn, h]

/-- Cutting receptions completes the entries of their bulletins and windows (R124, R130). -/
theorem foldl_cutEntries (l : List Window) : ∀ u : State, l.foldl (fun t w => t.cutEntries w .lost .lost) u = { u with log.entries := u.log.entries.map (cutEntry u.time.now (figuresOf l)) } := by
  have : ∀ (l : List Window) (u : State), l.foldl (fun t w => t.cutEntries w .lost .lost) u = (figuresOf l).foldl (fun t f => t.logComplete f.1 .lost none f.2) u := by
    intro l
    induction l with
    | nil => intro u; rfl
    | cons w l ih =>
      intro u
      rw [List.foldl_cons, ih]
      unfold figuresOf
      rw [List.flatMap_cons, List.foldl_append, List.foldl_append]
      congr 1
      unfold State.cutEntries
      cases w.rx.bulletin <;> rfl
  intro u; rw [this, foldl_logComplete_lost]

end Sys2Proof.Machine
end

