-- ==== Sys2Proof/Laws/Clock.lean ====
section
/-! SUPPORT. Only a load of the clock and the waits for timers change ship time and its source. -/

set_option linter.unusedSimpArgs false

namespace Sys2Proof.Machine

/-- Ship time and its source. -/
def State.clock (s : State) : Time × ClockSource := (s.time.now, s.time.source)

variable (s : State)

theorem clock_of_frame {s t : State} (h : t.frame = s.frame) : t.clock = s.clock :=
  show t.frame.clock = s.frame.clock by rw [h]

theorem foldl_clock {α : Type} (g : State → α → State) (h : ∀ s a, (g s a).clock = s.clock) (l : List α) :
    (l.foldl g s).clock = s.clock := by
  induction l generalizing s with
  | nil => rfl
  | cons a l ih => rw [List.foldl_cons, ih, h]

@[simp] theorem storeLowTest_clock : (s.storeLowTest).clock = s.clock := clock_of_frame (storeLowTest_frame s)

@[simp] theorem freeRecord_clock (n : Nat) : (s.freeRecord n).clock = s.clock := clock_of_frame (freeRecord_frame s n)

@[simp] theorem place_clock (c : Claim) : (s.place c).clock = s.clock := clock_of_frame (place_frame s c)

@[simp] theorem claimWatch_clock : (s.claimWatch).clock = s.clock := clock_of_frame (claimWatch_frame s)

@[simp] theorem chooseWatch_clock : (s.chooseWatch).clock = s.clock := clock_of_frame (chooseWatch_frame s)

@[simp] theorem rechooseWatch_clock : (s.rechooseWatch).clock = s.clock := by
  unfold State.rechooseWatch
  try dsimp only
  all_goals (repeat' split) <;> first | rfl | simp

@[simp] theorem reclaim_clock (k : Nat) (ok : State → Bool) : (State.reclaim k ok s).clock = s.clock := by
  induction k generalizing s with
  | zero => rfl
  | succ k ih =>
    unfold State.reclaim
    (repeat' split) <;> first | rfl | simp [ih]

@[simp] theorem reclaimFor_clock (ok : State → Bool) : (s.reclaimFor ok).clock = s.clock := by
  unfold State.reclaimFor
  try dsimp only
  all_goals (repeat' split) <;> first | rfl | simp

@[simp] theorem allocPages_clock (p : Permission) (n m : Nat) : ((s.allocPages p n m).2).clock = s.clock := by
  unfold State.allocPages
  try dsimp only
  all_goals (repeat' split) <;> first | rfl | exact reclaimFor_clock s _ | exact (storeLowTest_clock _).trans (reclaimFor_clock s _) | simp

@[simp] theorem allocRecord_clock (p : Permission) (r : MsgRec) : ((s.allocRecord p r).2).clock = s.clock := by
  unfold State.allocRecord
  try dsimp only
  all_goals (repeat' split) <;> first | rfl | exact reclaimFor_clock s _ | exact (storeLowTest_clock _).trans (reclaimFor_clock s _) | simp

@[simp] theorem allocText_clock (p : Permission) (r : MsgRec) : ((s.allocText p r).2).clock = s.clock := by
  have e := allocRecord_clock s p r
  unfold State.allocText
  split
  · rename_i s1 h
    rwa [h] at e
  · rename_i n s1 h
    rw [h] at e
    split
    · exact e
    · have e2 := allocPages_clock s1 p (pagesFor r.textLen) n
      split <;> rename_i s2 h2 <;> rw [h2] at e2
      · exact e2.trans e
      · exact (freeRecord_clock s2 n).trans (e2.trans e)

@[simp] theorem windowGranted_clock (c : Claim) : (s.windowGranted c).clock = s.clock := clock_of_frame (windowGranted_frame s c)

@[simp] theorem openWindow_clock (w : Window) : (s.openWindow w).clock = s.clock := by
  unfold State.openWindow
  dsimp only
  (repeat' split) <;> (simp [clock_of_frame (giveWay_frame _)]; rfl)

@[simp] theorem takeOccurrence_clock (e : Nat) (c : ScheduleCfg) (d : Int) : (s.takeOccurrence e c d).clock = s.clock := by
  unfold State.takeOccurrence
  try dsimp only
  all_goals (repeat' split) <;> first | rfl | (simp; done) | (simp; rfl)

@[simp] theorem scheduleDue_clock (e : Nat) : (s.scheduleDue e).clock = s.clock := by
  unfold State.scheduleDue
  try dsimp only
  (repeat' split) <;> first | rfl | exact foldl_clock s State.pollPending (fun s n => pollPending_clock s n) _ | (simp; done) | (simp; rfl)

@[simp] theorem saveTally_clock : (s.saveTally).clock = s.clock := rfl

@[simp] theorem reported_clock (sp : Span) : (s.reported sp).clock = s.clock := rfl

@[simp] theorem defer_clock (t : Trigger) : (s.defer t).clock = s.clock := by
  unfold State.defer
  try dsimp only
  all_goals (repeat' split) <;> first | rfl | simp

@[simp] theorem compose_clock (t : Trigger) (a : Nat) : ((s.compose t a).1).clock = s.clock := by
  unfold State.compose
  dsimp only
  split <;> rename_i s1 h <;> have e := congrArg (fun x => x.2.clock) h <;> dsimp only at e <;> rw [allocText_clock] at e
  · exact (reported_clock s1 _).trans e.symm
  · exact (defer_clock s1 t).trans e.symm

@[simp] theorem requeueReport_clock (n : Nat) : (s.requeueReport n).clock = s.clock := rfl

@[simp] theorem pollPending_clock (n : Nat) : (s.pollPending n).clock = s.clock := by
  unfold State.pollPending
  try dsimp only
  all_goals (repeat' split) <;> first | rfl | simp

@[simp] theorem trigger_clock (t : Trigger) : ((s.trigger t).1).clock = s.clock := by
  unfold State.trigger
  try dsimp only
  (repeat' split) <;> first | rfl | exact foldl_clock s State.pollPending (fun s n => pollPending_clock s n) _ | (simp; done) | (simp; rfl)

@[simp] theorem reportDue_clock : (s.reportDue).clock = s.clock := by
  unfold State.reportDue
  try dsimp only
  (repeat' split) <;> first | rfl | exact foldl_clock s State.pollPending (fun s n => pollPending_clock s n) _ | (simp; done) | (simp; rfl)

@[simp] theorem testCalendar_clock : (s.testCalendar).clock = s.clock := by
  unfold State.testCalendar
  rw [reportDue_clock]
  exact foldl_clock s _ (fun s n => scheduleDue_clock s n) _

@[simp] theorem shiftTimers_clock (d : Time) : (s.shiftTimers d).clock = s.clock := rfl

@[simp] theorem takeNothingPast_clock : (s.takeNothingPast).clock = s.clock := rfl

@[simp] theorem positionStale_clock : (s.positionStale).clock = s.clock := by
  unfold State.positionStale
  split <;> rfl

/-- A load sets ship time and its source (R44, R45). -/
theorem loadClock_clock (v : Time) (c : ClockSource) : (s.loadClock v c).clock = (v, c) := by
  unfold State.loadClock
  dsimp only
  have aged : ∀ u : State, u.clock = (v, c) → (if u.ageTimer.any (passed v) then u.positionStale else u).clock = (v, c) := by
    intro u h
    split
    · rw [positionStale_clock, h]
    · exact h
  rw [rechooseWatch_clock]
  split
  all_goals
    refine (testCalendar_clock _).trans (aged _ ?_)
    split <;> rfl

end Sys2Proof.Machine
end

