-- ==== Sys2Proof/Laws/Keeps.lean ====
section
/-! SUPPORT. How a property that every block's reaction keeps is kept by a command and by a step: the induction over the
exchange of messages, said once for any property of State. -/

namespace Sys2Proof.Machine

/-- What the blocks do keeps what each message handled, and what the engine attends to, keeps. -/
theorem settle_keeps {P : State → Prop} (hm : ∀ u m rest, P u → P ({ u with msgs := rest }.handle m))
    (ha : ∀ u t, P u → u.attend = some t → P t) (k : Nat) : ∀ s : State, P s → P (s.settle k) := by
  induction k with
  | zero => exact fun s h => h
  | succ k ih =>
    intro s h
    unfold State.settle
    split
    · exact ih _ (hm _ _ _ h)
    · split
      · exact h
      · exact ih _ (ha _ _ h (by assumption))

theorem work_keeps {P : State → Prop} (hm : ∀ u m rest, P u → P ({ u with msgs := rest }.handle m))
    (ha : ∀ u t, P u → u.attend = some t → P t) {s : State} (h : P s) : P s.work :=
  settle_keeps hm ha _ s h

/-- An event of one block keeps what its effect, the start and the end of a command keep. -/
theorem localEvent_keeps {P : State → Prop} (hs : ∀ u, P u → P u.scrub) (he : ∀ u q, P u → P (u.seal q)) {s t : State}
    {f : State → State} (hf : ∀ u, P u → P (f u)) (h0 : P s) (h : localEvent s f = .next t) : P t := by
  unfold localEvent at h
  split at h <;> injection h with h <;> subst h
  · exact h0
  · exact he _ _ (hf _ (hs _ h0))

/-- An event whose effects reach other blocks. -/
theorem event_keeps {P : State → Prop} (hs : ∀ u, P u → P u.scrub) (he : ∀ u q, P u → P (u.seal q))
    (hw : ∀ u, P u → P u.work) {s t : State} {f : State → State} (hf : ∀ u, P u → P (f u)) (h0 : P s)
    (h : event s f = .next t) : P t :=
  localEvent_keeps hs he (fun u hu => hw _ (hf u hu)) h0 h

/-- A request keeps what its effect, the blocks' work, its answer and the start and the end of a command keep. -/
theorem requestWith_keeps {P : State → Prop} (hs : ∀ u p, P u → P { u.scrub with ports := p })
    (hr : ∀ u k r a, P u → P (u.reply k r a)) (he : ∀ u q, P u → P (u.seal q)) {w : State → State}
    (hw : ∀ u, P u → P (w u)) {k : ReqKind} {r : Req} {s t : State} {f : State → State × Answer}
    (hf : ∀ u, P u → P (f u).1) (h0 : P s) (h : requestWith w k r s f = .next t) : P t := by
  unfold requestWith at h
  split at h
  · injection h with h; subst h; exact h0
  · dsimp only at h
    split at h <;> injection h with h <;> subst h
    · exact he _ _ (hr _ _ _ _ (hs _ _ h0))
    · exact he _ _ (hr _ _ _ _ (hw _ (hf _ (hs _ _ h0))))

/-- A step keeps what every command keeps, if it does not depend on the queue or on the second. -/
theorem step_keeps {P : State → Prop} (hq : ∀ u q, P u → P { u with pending := q }) (ht : ∀ u, P u → P u.tick)
    (hx : ∀ c u t, P u → exec c u = .next t → P t) {s t : State} (h0 : P s) (h : step s = .next t) : P t := by
  unfold step at h
  split at h
  · injection h with h
    subst h
    unfold State.idle
    split
    · exact h0
    · split
      · exact hq _ _ h0
      · exact ht _ h0
  · exact hx _ _ _ (hq _ _ h0) h

end Sys2Proof.Machine
end

