-- ==== Sys2Proof/Laws/Order.lean ====
section
/-! SUPPORT. The choices by order: the first of a list by a comparison, the sending order (R10), the serial order of the
distress list (R179, R181), the order of the factor table (R140), and the record that reclaim takes (R8). -/

namespace Sys2Proof.Machine

/-! ### The first by a comparison -/

/-- The element found so far stays when no later one comes before it. -/
theorem foldl_first_keep {α : Type} (b : α → α → Bool) (l : List α) (x : α) (h : ∀ d ∈ l, b d x = false) :
    (l.foldl (fun acc e => match acc with | none => some e | some z => if b e z then some e else some z) (some x)) = some x := by
  induction l with
  | nil => rfl
  | cons e l ih => simp only [List.foldl_cons]; rw [h e (by simp)]; simpa using ih (fun d hd => h d (by simp [hd]))

/-- The first by a comparison: it comes before every earlier element, and no later one comes before it (R38, R39). -/
theorem firstBy_split {α : Type} (b : α → α → Bool) (l l' : List α) (x : α) (hl : ∀ y ∈ l, b x y = true) (hl' : ∀ y ∈ l', b y x = false) :
    firstBy b (l ++ x :: l') = some x := by
  have : ∀ (acc : Option α), (∀ y, acc = some y → b x y = true) → (l ++ x :: l').foldl (fun acc e => match acc with | none => some e | some z => if b e z then some e else some z) acc = some x := by
    induction l with
    | nil =>
      intro acc h
      rw [List.nil_append, List.foldl_cons]
      cases acc with
      | none => exact foldl_first_keep b _ _ hl'
      | some z =>
        have h1 := h z rfl
        simp only [h1, if_true]
        exact foldl_first_keep b _ _ hl'
    | cons e l ih =>
      intro acc h
      rw [List.cons_append, List.foldl_cons]
      apply ih (fun y hy => hl y (by simp [hy]))
      intro z hz
      cases acc with
      | none => injection hz with hz; subst hz; exact hl _ (by simp)
      | some w =>
        dsimp only at hz; split at hz
        · injection hz with hz; subst hz; exact hl _ (by simp)
        · injection hz with hz; subst hz; exact h _ rfl
  exact this none (by simp)

/-- The element before all others is found, whatever was found so far. -/
theorem foldl_first_reach {α : Type} (b : α → α → Bool) (l : List α) (e : α) (acc : Option α)
    (hacc : ∀ y, acc = some y → y = e ∨ b e y = true) (hmem : e ∈ l ∨ acc = some e)
    (h : ∀ d ∈ l, d = e ∨ (b e d = true ∧ b d e = false)) :
    (l.foldl (fun acc e => match acc with | none => some e | some z => if b e z then some e else some z) acc) = some e := by
  induction l generalizing acc with
  | nil => rcases hmem with h | h; · cases h
           · exact h
  | cons d l ih =>
    simp only [List.foldl_cons]
    have hd := h d (by simp)
    have hl : ∀ x ∈ l, x = e ∨ (b e x = true ∧ b x e = false) := fun x hx => h x (by simp [hx])
    cases acc with
    | none =>
      dsimp only
      apply ih _ _ _ hl
      · rintro y ⟨⟩; rcases hd with h | h; exact .inl h; exact .inr h.1
      · rcases hmem with hm | hm
        · rcases List.mem_cons.1 hm with rfl | hm; exact .inr rfl; exact .inl hm
        · cases hm
    | some y =>
      dsimp only
      have hy := hacc y rfl
      by_cases hb : b d y = true
      · rw [if_pos hb]; apply ih _ _ _ hl
        · rintro z ⟨⟩; rcases hd with h | h; exact .inl h; exact .inr h.1
        · rcases hmem with hm | hm
          · rcases List.mem_cons.1 hm with rfl | hm; exact .inr rfl; exact .inl hm
          · injection hm with hm; subst hm
            rcases hd with rfl | h; exact .inr rfl; rw [h.2] at hb; cases hb
      · rw [if_neg hb]; apply ih _ _ _ hl
        · rintro z ⟨⟩; exact hy
        · rcases hmem with hm | hm
          · rcases List.mem_cons.1 hm with rfl | hm
            · rcases hy with rfl | hy; exact .inr rfl; exact absurd hy hb
            · exact .inl hm
          · exact .inr hm

/-- The element of a list that comes before every other one is its first (R10, R77). -/
theorem firstBy_eq {α : Type} (b : α → α → Bool) (l : List α) (e : α) (he : e ∈ l)
    (h : ∀ d ∈ l, d = e ∨ (b e d = true ∧ b d e = false)) : firstBy b l = some e :=
  foldl_first_reach b l e none (by simp) (.inl he) h

/-- The sending order in full: precedence, then age, then number (R10). -/
theorem sendsBefore_iff (now : Time) (a b : Nat × MsgRec) : sendsBefore now a b = true ↔ (a.2.prec.code < b.2.prec.code ∨ (a.2.prec = b.2.prec ∧
      ((now - b.2.created).toNat < (now - a.2.created).toNat ∨ ((now - a.2.created).toNat = (now - b.2.created).toNat ∧ a.1 < b.1)))) := by
  have : ∀ p q : Prec, p.code = q.code ↔ p = q := by intro p q; cases p <;> cases q <;> decide
  simp only [sendsBefore, olderThan, age, Bool.or_eq_true, Bool.and_eq_true, beq_iff_eq, this]
  exact or_congr decide_eq_true_iff (and_congr Iff.rfl (or_congr decide_eq_true_iff (and_congr Iff.rfl decide_eq_true_iff)))

/-- Of two records only one is sent before the other (R10). -/
theorem sendsBefore_asymm (now : Time) (a b : Nat × MsgRec) (h : sendsBefore now a b = true) : sendsBefore now b a = false := by
  rw [← Bool.not_eq_true, sendsBefore_iff]; rw [sendsBefore_iff] at h
  rintro (h2 | ⟨h2, h3⟩)
  · rcases h with h | ⟨h, _⟩; omega; rw [h] at h2; omega
  · rcases h with h | ⟨h, h4⟩; rw [h2] at h; omega; omega

/-! ### The distress list by serial -/

/-- An entry joins the list, and nothing else changes (R181). -/
theorem joinSerial_perm (e : DistressEntry) (l : List DistressEntry) : (joinSerial e l).Perm (e :: l) := by
  induction l with
  | nil => exact List.Perm.refl _
  | cons d l ih =>
    unfold joinSerial; split
    · exact (ih.cons d).trans (List.Perm.swap ..)
    · exact List.Perm.refl _

/-- The entries that join, in any state of the list. -/
theorem foldl_joinSerial_perm (l : List DistressEntry) : ∀ acc, (l.foldl (fun acc e => joinSerial e acc) acc).Perm (acc ++ l) := by
  induction l with
  | nil => intro acc; simp
  | cons e l ih => intro acc; rw [List.foldl_cons]; exact (ih _).trans ((joinSerial_perm e acc).append_right l |>.trans List.perm_middle.symm)

/-- The list by serial has the same entries (R181). -/
theorem bySerial_perm (l : List DistressEntry) : (bySerial l).Perm l := foldl_joinSerial_perm l []

/-- Within half the range of serials an entry joins at its place (R179). -/
theorem joinSerial_sorted (base : Nat) (hb : base < 65536) (e : DistressEntry) (l : List DistressEntry)
   (h : ∀ d ∈ e :: l, d.serial < 65536 ∧ (d.serial + 65536 - base) % 65536 < 32768)
   (hs : l.Pairwise fun a b => (a.serial + 65536 - base) % 65536 ≤ (b.serial + 65536 - base) % 65536) :
   (joinSerial e l).Pairwise fun a b => (a.serial + 65536 - base) % 65536 ≤ (b.serial + 65536 - base) % 65536 := by
  induction l with
  | nil => simp [joinSerial]
  | cons d l ih =>
    rw [List.pairwise_cons] at hs
    obtain ⟨e1, e2⟩ := h e (by simp)
    obtain ⟨d1, d2⟩ := h d (by simp)
    unfold joinSerial
    have key : serialUpTo d.serial e.serial = true ↔ (d.serial + 65536 - base) % 65536 ≤ (e.serial + 65536 - base) % 65536 := by
      unfold serialUpTo; rw [decide_eq_true_iff]; omega
    split
    · rename_i hk
      rw [List.pairwise_cons]
      refine ⟨fun x hx => ?_, ih (fun x hx => h x (by simp at hx ⊢; exact hx.elim .inl fun y => .inr (.inr y))) hs.2⟩
      have := (joinSerial_perm e l).mem_iff.1 hx
      rcases List.mem_cons.1 this with rfl | hx
      · exact key.1 hk
      · exact hs.1 x hx
    · rename_i hk
      have hk := mt key.2 hk
      rw [List.pairwise_cons, List.pairwise_cons]
      refine ⟨fun x hx => ?_, hs⟩
      rcases List.mem_cons.1 hx with rfl | hx
      · omega
      · have := hs.1 x hx; omega

/-- Within half the range of serials the list is in serial order (R179, R181). -/
theorem bySerial_sorted (base : Nat) (hb : base < 65536) (l : List DistressEntry)
   (h : ∀ d ∈ l, d.serial < 65536 ∧ (d.serial + 65536 - base) % 65536 < 32768) :
   (bySerial l).Pairwise fun a b => (a.serial + 65536 - base) % 65536 ≤ (b.serial + 65536 - base) % 65536 := by
  have : ∀ l acc : List DistressEntry, (∀ d ∈ l, d.serial < 65536 ∧ (d.serial + 65536 - base) % 65536 < 32768) → (∀ d ∈ acc, d.serial < 65536 ∧ (d.serial + 65536 - base) % 65536 < 32768) →
     acc.Pairwise (fun (a b : DistressEntry) => (a.serial + 65536 - base) % 65536 ≤ (b.serial + 65536 - base) % 65536) →
     (l.foldl (fun acc e => joinSerial e acc) acc).Pairwise (fun (a b : DistressEntry) => (a.serial + 65536 - base) % 65536 ≤ (b.serial + 65536 - base) % 65536) := by
    intro l
    induction l with
    | nil => intro acc _ _ h; exact h
    | cons e l ih =>
      intro acc h1 h2 h3
      rw [List.foldl_cons]
      have h4 : ∀ d ∈ e :: acc, d.serial < 65536 ∧ (d.serial + 65536 - base) % 65536 < 32768 := by
        intro d hd; rcases List.mem_cons.1 hd with rfl | hd
        · exact h1 d (by simp)
        · exact h2 d hd
      exact ih _ (fun d hd => h1 d (by simp [hd])) (fun d hd => h4 d ((joinSerial_perm e acc).mem_iff.1 hd)) (joinSerial_sorted base hb e acc h4 h3)
  exact this l [] h (by simp) List.Pairwise.nil

/-! ### Reclaim -/

/-- Nothing may be reclaimed exactly when no record is in a tier (R8). -/
theorem victim_none (s : State) : s.victim = none ↔ ∀ e ∈ s.store.recs, s.reclaimTier e.1 e.2 = none := by
  unfold State.victim
  simp only [Option.map_eq_none_iff]
  have key : ∀ (l : List (Nat × MsgRec)) (acc : Option (Nat × (Nat × MsgRec))), l.foldl (fun (acc : Option (Nat × (Nat × MsgRec))) e =>
      match s.reclaimTier e.1 e.2, acc with
      | none, _ => acc
      | some t, none => some (t, e)
      | some t, some (t', e') =>
        if t < t' || (t == t' && olderThan s.time.now e e') then some (t, e) else acc) acc = none ↔ acc = none ∧ ∀ e ∈ l, s.reclaimTier e.1 e.2 = none := by
    intro l
    induction l with
    | nil => intro acc; simp
    | cons e l ih =>
      intro acc
      rw [List.foldl_cons, ih]
      cases h : s.reclaimTier e.1 e.2 with
      | none => simp [h]
      | some t =>
        cases acc with
        | none => simp [h]
        | some x => simp only [List.mem_cons]; split <;> simp [h]
  exact (key s.store.recs none).trans (by simp)


/-- The record that reclaim takes is of the lowest tier, and none of that tier is older (R8). -/
theorem victim_some (s : State) (n : Nat) (h : s.victim = some n) : ∃ x t, (n, x) ∈ s.store.recs ∧ s.reclaimTier n x = some t ∧
    ∀ e ∈ s.store.recs, ∀ o, s.reclaimTier e.1 e.2 = some o → t < o ∨ (t = o ∧ olderThan s.time.now e (n, x) = false) := by
  obtain ⟨f, hf⟩ : ∃ f, f = (fun (acc : Option (Nat × (Nat × MsgRec))) (e : Nat × MsgRec) =>
      match s.reclaimTier e.1 e.2, acc with
      | none, _ => acc
      | some t, none => some (t, e)
      | some t, some (t', e') =>
        if t < t' || (t == t' && olderThan s.time.now e e') then some (t, e) else acc) := ⟨_, rfl⟩
  have key : ∀ (l : List (Nat × MsgRec)) (acc : Option (Nat × (Nat × MsgRec))) (seen : List (Nat × MsgRec)),
     (acc = none → ∀ e ∈ seen, s.reclaimTier e.1 e.2 = none) →
     (∀ t x, acc = some (t, x) → x ∈ seen ∧ s.reclaimTier x.1 x.2 = some t ∧ ∀ e ∈ seen, ∀ other, s.reclaimTier e.1 e.2 = some other → t < other ∨ (t = other ∧ olderThan s.time.now e x = false)) →
     ∀ t x, l.foldl f acc = some (t, x) → x ∈ seen ++ l ∧ s.reclaimTier x.1 x.2 = some t ∧ ∀ e ∈ seen ++ l, ∀ other, s.reclaimTier e.1 e.2 = some other → t < other ∨ (t = other ∧ olderThan s.time.now e x = false) := by
    intro l
    induction l with
    | nil => intro acc seen h1 h2 t x h; simpa using h2 t x h
    | cons a l ih =>
      intro acc seen h1 h2 t x h
      have := ih (f acc a) (seen ++ [a]) ?_ ?_ t x h
      · simpa using this
      · intro hn e he
        rw [hf] at hn; dsimp only at hn
        cases ht : s.reclaimTier a.1 a.2 with
        | none =>
          rw [ht] at hn; dsimp only at hn
          simp only [List.mem_append, List.mem_singleton] at he
          rcases he with he | rfl
          · exact h1 hn e he
          · exact ht
        | some t =>
          rw [ht] at hn
          cases acc with
          | none => simp at hn
          | some y => dsimp only at hn; split at hn <;> simp at hn
      · intro t x hx
        rw [hf] at hx; dsimp only at hx
        cases ht : s.reclaimTier a.1 a.2 with
        | none =>
          rw [ht] at hx; dsimp only at hx
          obtain ⟨q1, q2, q3⟩ := h2 t x hx
          refine ⟨by simp [q1], q2, fun e he o ho => ?_⟩
          simp only [List.mem_append, List.mem_singleton] at he
          rcases he with he | rfl
          · exact q3 e he o ho
          · rw [ht] at ho; cases ho
        | some t1 =>
          rw [ht] at hx
          cases acc with
          | none =>
            simp only [Option.some.injEq, Prod.mk.injEq] at hx
            obtain ⟨rfl, rfl⟩ := hx
            refine ⟨by simp, ht, fun e he o ho => ?_⟩
            simp only [List.mem_append, List.mem_singleton] at he
            rcases he with he | rfl
            · rw [h1 rfl e he] at ho; cases ho
            · rw [ht] at ho; cases ho; right; refine ⟨rfl, ?_⟩; simp [olderThan]
          | some y =>
            obtain ⟨t', e'⟩ := y
            obtain ⟨q1, q2, q3⟩ := h2 t' e' rfl
            dsimp only at hx
            split at hx
            · rename_i c
              simp only [Option.some.injEq, Prod.mk.injEq] at hx
              obtain ⟨rfl, rfl⟩ := hx
              refine ⟨by simp, ht, fun e he o ho => ?_⟩
              simp only [List.mem_append, List.mem_singleton] at he
              rcases he with he | rfl
              · have := q3 e he o ho
                simp only [olderThan, Bool.or_eq_true, Bool.and_eq_true, decide_eq_true_eq, beq_iff_eq, Bool.or_eq_false_iff, Bool.and_eq_false_iff, decide_eq_false_iff_not, beq_eq_false_iff_ne] at *
                omega
              · rw [ht] at ho; cases ho; right; refine ⟨rfl, ?_⟩; simp [olderThan]
            · rename_i c
              simp only [Option.some.injEq, Prod.mk.injEq] at hx
              obtain ⟨rfl, rfl⟩ := hx
              refine ⟨by simp [q1], q2, fun e he o ho => ?_⟩
              simp only [List.mem_append, List.mem_singleton] at he
              rcases he with he | rfl
              · exact q3 e he o ho
              · rw [ht] at ho; cases ho
                simp only [Bool.or_eq_true, Bool.and_eq_true, decide_eq_true_eq, beq_iff_eq, not_or, not_and, Bool.not_eq_true] at c
                by_cases hh : t' = t1
                · exact .inr ⟨hh, c.2 hh.symm⟩
                · left; omega
  have h : (s.store.recs.foldl f none).map (·.2.1) = some n := by rw [hf]; exact h
  cases hb : s.store.recs.foldl f none with
  | none => rw [hb] at h; cases h
  | some y =>
    obtain ⟨t, x⟩ := y
    rw [hb] at h
    simp only [Option.map_some, Option.some.injEq] at h
    subst h
    obtain ⟨a, b, c⟩ := key s.store.recs none [] (by simp) (by simp) t x hb
    simp only [List.nil_append] at a c
    exact ⟨x.2, t, a, b, c⟩

/-- Emptying a loaded entry of a table in order leaves one entry less. -/
theorem length_del_of_mem (t : Table MsgRec) (e : Nat × MsgRec) (hw : t.wf = true) (he : e ∈ t) : (t.del e.1).length + 1 = t.length := by
  have hdel : ∀ (l : List (Nat × MsgRec)) n, (∀ x ∈ l, n < x.1) → Table.del l n = l := by
    intro l n h; unfold Table.del; rw [List.filter_eq_self]; intro x hx; have := h x hx; simp; omega
  induction t with
  | nil => cases he
  | cons a l ih =>
    simp only [Table.wf, Bool.and_eq_true, List.all_eq_true, decide_eq_true_eq] at hw
    rcases List.mem_cons.1 he with rfl | h
    · have : Table.del (e :: l) e.1 = Table.del l e.1 := by unfold Table.del; simp
      rw [this, hdel l e.1 hw.1]; rfl
    · have hlt := hw.1 e h
      have : Table.del (a :: l) e.1 = a :: Table.del l e.1 := by unfold Table.del; rw [List.filter_cons_of_pos]; simp; omega
      rw [this]; simp only [List.length_cons]; rw [ih hw.2 h]

/-- A table in order finds each of its entries. -/
theorem find_of_mem (t : Table MsgRec) (e : Nat × MsgRec) (hw : t.wf = true) (he : e ∈ t) : t.find e.1 = some e.2 := by
  induction t with
  | nil => cases he
  | cons a l ih =>
    simp only [Table.wf, Bool.and_eq_true, List.all_eq_true, decide_eq_true_eq] at hw
    unfold Table.find
    rcases List.mem_cons.1 he with rfl | h
    · simp
    · have hlt := hw.1 e h
      rw [if_neg (by omega)]; exact ih hw.2 h

/-! ### The factor table (R140) -/

theorem codeBefore_irrefl (l : List Byte) : codeBefore l l = false := by
  induction l with
  | nil => rfl
  | cons a l ih => simp [codeBefore, ih]

theorem factor_before_irrefl (f : Factor) : f.before f = false := by
  simp [Factor.before, codeBefore_irrefl]

/-- Factor order looks at code and form alone, so an entry that comes before another has another pair. -/
theorem factor_before_ne (f g : Factor) (h : f.before g = true) : ¬(g.code = f.code ∧ g.form = f.form) := by
  rintro ⟨hc, hf⟩
  have : f.before g = f.before f := by simp [Factor.before, hc, hf]
  rw [this, factor_before_irrefl] at h
  exact absurd h (by decide)

/-- An image that has its factor entries in the order of FACTOR-GET is loaded entry for entry (R140, 11.5). -/
theorem factorTable_of_ordered (l : List Factor) (h : l.Pairwise fun a b => a.before b = true) : factorTable l = l := by
  induction l with
  | nil => rfl
  | cons f l ih =>
    obtain ⟨hf, hl⟩ := List.pairwise_cons.mp h
    have put : putFactor f l = f :: l := by
      cases l with
      | nil => rfl
      | cons g l =>
        have hg := hf g (by simp)
        simp [putFactor, factor_before_ne f g hg, hg]
    rw [factorTable, List.foldr_cons, ← factorTable, ih hl, put]

end Sys2Proof.Machine
end

