-- ==== Sys2Proof/Machine/ImageBytes.lean ====
section
/-! DEFINITION. The bytes of the two serial-memory images (11.5, log entry 31). The state holds the images as data; these
functions say how they lie in the serial memory. -/

namespace Sys2Proof.Machine

def Use.code : Use → Nat
  | .traffic => 0
  | .broadcast => 1
  | .distress => 2

def Acceptance.code : Acceptance → Nat
  | .accept => 0
  | .refuse => 1
  | .ignore => 2

def QuotaState.code : QuotaState → Nat
  | .none => 0
  | .near => 1
  | .reached => 2

/-- An entry behind its presence byte; an empty one keeps its width and is filled with 0 (11.5). -/
def slotBytes (width : Nat) : Option (List Byte) → List Byte
  | some l => 1 :: padTo width l
  | none => 0 :: List.replicate width 0

/-- A table of entries 1 to its size, in ascending entry number (11.5). -/
def tableBytes {α : Type} (size width : Nat) (f : α → List Byte) (t : Table α) : List Byte :=
  ((List.range size).map fun i => slotBytes width ((t.find (i + 1)).map f)).flatten

/-- A list of at most `size` rows, followed by empty slots. -/
def listBytes {α : Type} (size width : Nat) (f : α → List Byte) (l : List α) : List Byte :=
  ((List.range size).map fun i => slotBytes width ((l[i]?).map f)).flatten

def StationCfg.bytes (c : StationCfg) : List Byte :=
  bytesOfNat 3 c.number ++ padTo 12 c.name ++ [byteOfBool c.traffic, byteOfBool c.broadcast, byteOfBool c.authority] ++
    padTo Config.listChannels (c.channels.map (BitVec.ofNat 8)) ++ bytesOfNat 1 c.attempts

def ChannelCfg.bytes (c : ChannelCfg) : List Byte :=
  bytesOfNat 3 c.tx ++ bytesOfNat 3 c.rx ++ bytesOfNat 1 c.use.code ++ bytesOfNat 1 c.startHour ++
    bytesOfNat 1 c.endHour ++ [byteOfBool c.disabled]

def ScheduleCfg.bytes (c : ScheduleCfg) : List Byte :=
  bytesOfNat 1 c.station ++ bytesOfNat 1 c.channel ++ bytesOfNat 2 c.start ++ bytesOfNat 1 c.duration ++
    [byteOfBool (!c.must), byteOfBool c.enabled]

def Area.bytes (a : Area) : List Byte :=
  padTo 12 a.name ++ bytesOfInt a.south ++ bytesOfInt a.north ++ bytesOfInt a.west ++ bytesOfInt a.east

def SpeciesCfg.bytes (c : SpeciesCfg) : List Byte := c.code ++ bytesOfNat 4 c.quota

def Factor.bytes (f : Factor) : List Byte := f.code ++ bytesOfNat 1 f.form.code ++ bytesOfNat 2 f.factor

/-- A set of area numbers: bit n − 1 is area n (R214). -/
def areaSetBytes (l : List Nat) : List Byte := bytesOfNat 4 ((l.map fun n => 2 ^ (n - 1)).sum)

/-- The items of R210 in the order R210 lists them (11.5). -/
def SettingsImage.items (i : SettingsImage) : List Byte :=
  bytesOfNat 3 i.identity.number ++ padTo 16 i.identity.name ++ padTo 8 i.identity.callSign ++
    tableBytes Config.stations 25 StationCfg.bytes i.stations ++ tableBytes Config.channels 10 ChannelCfg.bytes i.channels ++
    tableBytes Config.scheduleEntries 7 ScheduleCfg.bytes i.schedule ++ tableBytes Config.areas 28 Area.bytes i.areas ++
    tableBytes Config.speciesEntries 7 SpeciesCfg.bytes i.species ++
    listBytes Config.factorEntries 6 Factor.bytes i.factors ++
    (i.individual ++ i.collective).map (fun a => BitVec.ofNat 8 a.code) ++
    (bytesOfNat 2 i.maps.p1.toNat ++ bytesOfNat 2 i.choices.p1.toNat) ++
    (bytesOfNat 2 i.maps.p2.toNat ++ bytesOfNat 2 i.choices.p2.toNat) ++
    (bytesOfNat 2 i.maps.p3.toNat ++ bytesOfNat 2 i.choices.p3.toNat) ++
    bytesOfNat 1 i.distressLevel ++ slotBytes 3 (i.watchStation.map (bytesOfNat 3)) ++ areaSetBytes i.watchAreas ++
    bytesOfNat 2 i.reportTime

def Row.bytes (r : Row) : List Byte :=
  r.code ++ bytesOfNat 1 r.area ++ bytesOfNat 4 r.day ++ bytesOfNat 4 r.trip ++ [byteOfBool r.unconverted]

def SavedQuota.bytes (q : SavedQuota) : List Byte :=
  q.code ++ bytesOfNat 1 q.state.code ++ [byteOfBool q.nearRaised, byteOfBool q.reachedRaised]

/-- The span start, the 64 row slots and the quota states of the species (11.5). -/
def TallyImage.items (t : TallyImage) : List Byte :=
  slotBytes 2 (t.spanStart.map (bytesOfNat 2)) ++ listBytes Config.tallyRows 13 Row.bytes t.rows ++
    listBytes Config.speciesEntries 6 SavedQuota.bytes t.quotas

/-- An image ends with its CRC-32 over every byte before it (11.5). -/
def sealImage (items : List Byte) : List Byte := items ++ bytesOfNat 4 (crc32 items).toNat

/-- The settings image and the tally image as they lie in the serial memory. -/
def SettingsImage.bytes (i : SettingsImage) : List Byte := sealImage i.items
def TallyImage.bytes (t : TallyImage) : List Byte := sealImage t.items

end Sys2Proof.Machine
end

