-- ==== Sys2Proof/Machine/Wire.lean ====
section
/-! DEFINITION. The commands that bytes on the part's inputs spell: bursts, control answers, position records and console
frames, and how the paths search their bits and the receivers hunt their bytes for them (R54, R55, R199, R200, R214, R215,
Chapter 11). The table gives its rows no bits, so step does not pass through here; these functions say which commands the
bits and bytes of an input are (log entry 31). -/

namespace Sys2Proof.Machine

/-! ### Fields -/

/-- The unsigned field of `k` bytes at offset `i` (R214). -/
def fieldAt (l : List Byte) (i k : Nat) : Nat := natOfBytes ((l.drop i).take k)

/-- The signed field of four bytes at offset `i` (R214). -/
def signedAt (l : List Byte) (i : Nat) : Int := (BitVec.ofNat 32 (fieldAt l i 4)).toInt

/-- A byte with 0 past the end. -/
def byteAt (l : List Byte) (i : Nat) : Byte := l.getD i 0

/-- A flag byte is set when it is not 0 (R214). -/
def flagAt (l : List Byte) (i : Nat) : Bool := byteAt l i != 0

/-- The two bytes after the first `k` are the CRC-16 of those (R214). -/
def checkAfter (k : Nat) (l : List Byte) : Bool := (l.drop k).take 2 == crc16Bytes (l.take k)

/-! ### Bursts (R55, 11.2) -/

/-- The body length that a kind byte fixes; none for a byte that is not a burst kind (R55, 11.2). -/
def bodyLength : Nat → Option Nat
  | 1 => some 8
  | 2 => some 6
  | 3 => some 7
  | 4 => some 3
  | 5 => some 2
  | 6 => some 1
  | 7 => some 22
  | 8 => some 19
  | _ => none

/-- The kind byte of a VOLLEY (11.1). -/
def volleyKind : Nat := 4

/-- The header of a volley, from the kind byte, its three bytes and the CRC (11.2); ANSWER-FIRST is not read (R59). -/
def readHeader (l : List Byte) : RxHeader :=
  { check := checkAfter 4 l
    counter := byteAt l 1
    count := (byteAt l 2).toNat
    code := (byteAt l 3).toNat % 4
    isOver := (byteAt l 3).getLsbD 6 }

/-- A volley frame of a payload length (11.2). -/
def readVolleyFrame (payLen : Nat) (l : List Byte) : RxFrame :=
  { check := checkAfter (payLen + 2) l
    seq := (byteAt l 0).setWidth 4
    kind := (byteAt l 0).toNat / 16 % 8
    used := (byteAt l 1).toNat
    payload := (l.drop 2).take payLen }

/-- Frame count × (payload length + 4) bytes, frame by frame (R55). -/
def readVolleyFrames (payLen : Nat) : Nat → List Byte → List RxFrame
  | 0, _ => []
  | n + 1, l => readVolleyFrame payLen l :: readVolleyFrames payLen n (l.drop (payLen + 4))

/-- The frames behind a header: none behind a bad one (R55, R59). -/
def framesBehind (h : RxHeader) (count : Nat) (l : List Byte) : List RxFrame :=
  if h.good then readVolleyFrames ((payloadBytes h.code).getD 0) count l else []

/-- The body of a tally (11.2). -/
def readTally (b : List Byte) : RxTally :=
  let flags := byteAt b 1
  { marks := (byteAt b 0).setWidth 4
    next := (byteAt b 0).extractLsb' 4 4
    turnGrant := flags.getLsbD 0
    turnRequest := flags.getLsbD 1
    refused := flags.getLsbD 2
    answerWaiting := flags.getLsbD 3
    storeFull := flags.getLsbD 4 }

/-- The body of a COLLECTIVE frame (11.2). -/
def readCollective (b : List Byte) : RxCollective :=
  { station := fieldAt b 0 3, frame := BitVec.ofNat 16 (fieldAt b 3 2), second := (byteAt b 5).getLsbD 7
    payload := (b.drop 6).take 16 }

/-- The body of an ALERT (11.2). -/
def readAlert (b : List Byte) : RxAlert :=
  { ship := fieldAt b 0 3, nature := fieldAt b 3 1, lat := signedAt b 4, lon := signedAt b 8
    fixTime := BitVec.ofNat 32 (fieldAt b 12 4), stale := flagAt b 16, persons := fieldAt b 17 1, serial := byteAt b 18 }

/-- A burst with a good check, by its kind and its body (R56, 11.1, 11.2). -/
def readBody (p : Path) (kind : Nat) (b : List Byte) : Instr :=
  match kind with
  | 1 => .callBurst p (fieldAt b 0 3) (fieldAt b 3 3) (fieldAt b 6 1) (fieldAt b 7 1)
  | 2 => .acceptBurst p (fieldAt b 0 3) (fieldAt b 3 3)
  | 3 => .rejectBurst p (fieldAt b 0 3) (fieldAt b 3 3) (fieldAt b 6 1)
  | 5 => .tallyBurst p (readTally b)
  | 6 => .clearBurst p (fieldAt b 0 1)
  | 7 =>
    let type := (byteAt b 5).toNat % 4
    if type = 3 then .collectiveDirectiveBurst p (readCollective b) else .collectiveBurst p (readCollective b) type
  | 8 => .alertBurst p (readAlert b)
  | _ => .undefinedBurstKind p

/-- The command of a burst whose bytes after the sync word have all been taken (R55, R56). -/
def burstCommand (p : Path) (l : List Byte) : Instr :=
  let kind := fieldAt l 0 1
  match bodyLength kind with
  | none => .undefinedBurstKind p
  | some n =>
    if kind = volleyKind then
      let h := readHeader l
      .volleyBurst p h (framesBehind h h.count (l.drop 6))
    else if checkAfter (n + 1) l then readBody p kind ((l.drop 1).take n) else .badBurst p

/-- The command of a carrier drop after the bytes that had been taken since the sync word (R55). -/
def cutCommand (p : Path) (l : List Byte) : Instr :=
  if fieldAt l 0 1 = volleyKind then
    let h := readHeader l
    let rest := l.drop 6
    if l.length < 6 ∨ !h.good then .carrierDrop p .volleyHeader
    else .carrierDrop p (.volley h (framesBehind h (rest.length / ((payloadBytes h.code).getD 0 + 4)) rest))
  else .carrierDrop p .other

/-! ### The sync search (R55) -/

/-- A received path bit by bit: the bits last received in SEARCHING, or the bits taken since the sync word in READING. -/
inductive BitRx
  | searching (last : List Bool)
  | reading (taken : List Bool)
  deriving DecidableEq, Repr

/-- SEARCHING with no bit received: after power-on, RESTART, a burst, a drop, and while the path is held (R55, log entry 31). -/
def BitRx.initial : BitRx := .searching []

/-- The sync word 0xB4E1 in the order of its bits on the air (R54). -/
def syncBits : List Bool := bitsOf [0xB4, 0xE1]

/-- The last `k` elements. -/
def lastOf {α : Type} (k : Nat) (l : List α) : List α := l.drop (l.length - k)

/-- A byte of received bits, the first the least significant (R54). -/
def byteOfBits (l : List Bool) : Byte := BitVec.ofNat 8 ((l.take 8).foldr (fun b n => b.toNat + 2 * n) 0)

/-- The whole bytes of received bits. -/
def bytesOfBits (l : List Bool) : List Byte := (List.range (l.length / 8)).map fun i => byteOfBits (l.drop (8 * i))

/-- The bytes of a burst from its kind byte to its end: kind, body and CRC, and behind the good check of a volley header frame
count × (payload length + 4) bytes, none for an undefined length code (R55, R59). -/
def burstLength (l : List Byte) : Option Nat :=
  (bodyLength (fieldAt l 0 1)).map fun n =>
    let h := readHeader l
    if fieldAt l 0 1 = volleyKind ∧ n + 3 ≤ l.length ∧ h.check then
      n + 3 + h.count * (payloadBytes h.code).elim 0 (· + 4)
    else n + 3

/-- A burst has been taken (R55). -/
def burstTaken (l : List Byte) : Bool := (burstLength l).any fun n => decide (n ≤ l.length)

/-- A bit arrives on a path: a match of the last 16 bits moves it to READING; after the kind byte of no burst the search resumes
at the bit after the sync word, and after a burst at the bit behind it (R55). -/
def BitRx.bit (p : Path) (x : BitRx) (b : Bool) : BitRx × List Instr :=
  match x with
  | .searching last =>
    let window := lastOf 16 (last ++ [b])
    if window = syncBits then (.reading [], [.syncWordMatch p]) else (.searching window, [])
  | .reading taken =>
    let bits := taken ++ [b]
    let l := bytesOfBits bits
    if bits.length = 8 ∧ bodyLength (fieldAt l 0 1) = none then (.searching bits, [.undefinedBurstKind p])
    else if bits.length % 8 = 0 ∧ burstTaken l then (.initial, [burstCommand p l])
    else (.reading bits, [])

/-- The bits of a path one after another, with the commands that they spell. The bits of a held path are not searched (R55). -/
def BitRx.receive (p : Path) (held : Bool) (x : BitRx) (l : List Bool) : BitRx × List Instr :=
  if held then (.initial, [])
  else l.foldl (fun acc b => let next := acc.1.bit p b; (next.1, acc.2 ++ next.2)) (x, [])

/-- The carrier drops: a burst being taken is cut short, and the path is SEARCHING (R55). -/
def BitRx.drop (p : Path) : BitRx → BitRx × List Instr
  | .searching _ => (.initial, [])
  | .reading taken => (.initial, [cutCommand p (bytesOfBits taken)])

/-! ### The control link and the navigation line (R215, 11.4) -/

/-- A control answer, from the five bytes after its start byte; one that names no radio has no effect, as though its check had
failed (model choice, log entry 31). -/
def controlAnswer (l : List Byte) : Instr :=
  let check := checkAfter 3 l
  match fieldAt l 0 1 with
  | 0 => .mainTuneAnswer check (byteAt l 1) (fieldAt l 2 1)
  | 1 => .watchTuneAnswer check (byteAt l 1) (fieldAt l 2 1)
  | _ => .mainTuneAnswer false (byteAt l 1) (fieldAt l 2 1)

/-- A position record, from the eleven bytes after its start byte. -/
def positionCommand (l : List Byte) : Instr :=
  .positionRecord (checkAfter 9 l) (fieldAt l 0 1) (signedAt l 1) (signedAt l 5)

/-! ### Console frames (R199, R200, 11.3) -/

/-- A field of a request body: of a fixed width, or a count byte and as many bytes (11.3). -/
inductive Width
  | fixed (n : Nat)
  | counted
  deriving DecidableEq, Repr

/-- The fields of a body, if it fits the widths exactly (R200 check 3). -/
def splitFields : List Width → List Byte → Option (List (List Byte))
  | [], [] => some []
  | [], _ :: _ => none
  | .fixed n :: ws, l => if l.length < n then none else (splitFields ws (l.drop n)).map (l.take n :: ·)
  | .counted :: _, [] => none
  | .counted :: ws, c :: l =>
    if l.length < c.toNat then none else (splitFields ws (l.drop c.toNat)).map (l.take c.toNat :: ·)

/-- The widths of the arguments of the message-store and station requests, by kind number (11.1, 11.3). -/
def storeWidths : Nat → List Width
  | 1 => [.fixed 3, .fixed 1]                    -- CREATE: station, precedence
  | 2 => [.fixed 2, .counted]                    -- APPEND: message, text
  | 3 | 4 | 5 | 8 | 9 => [.fixed 2]              -- SUBMIT, WITHDRAW, DELETE, KEEP-SET, KEEP-CLEAR: message
  | 6 => [.fixed 1, .fixed 1, .fixed 2]          -- LIST: class, state, start
  | 7 => [.fixed 2, .fixed 2, .fixed 1]          -- READ: message, offset, count
  | 10 => [.fixed 1, .fixed 2]                   -- READ-LOG: start or absent
  | 11 => [.fixed 1, .fixed 3, .counted, .fixed 1, .fixed 1, .fixed 1, .counted, .fixed 1]  -- STATION-SET
  | 12 | 13 | 14 | 15 | 20 | 21 | 22 | 26 => [.fixed 1]  -- an entry or area number
  | 17 | 18 => [.fixed 3]                        -- HOLD-STATION, RELEASE-STATION: station
  | 19 => [.fixed 1, .fixed 3, .fixed 3, .fixed 1, .fixed 1, .fixed 1, .fixed 1]  -- CHANNEL-SET
  | 23 => [.fixed 4]                             -- SET-TIME: ship time
  | 24 => [.fixed 4, .fixed 4]                   -- POSITION: latitude, longitude
  | 25 => [.fixed 1, .counted, .fixed 4, .fixed 4, .fixed 4, .fixed 4]  -- AREA-SET
  | _ => []

/-- The widths of the arguments of the other requests. -/
def unitWidths : Nat → List Width
  | 27 => [.fixed 3]                             -- CALL-NOW: station
  | 28 => [.fixed 1, .fixed 3]                   -- WATCH-STATION: station or absent
  | 29 => [.fixed 1, .fixed 1, .fixed 1]         -- ACCEPT-SET: code, addressing, value
  | 31 => [.fixed 1, .fixed 1, .fixed 1, .fixed 2, .fixed 1, .fixed 1, .fixed 1]  -- SCHEDULE-SET
  | 32 | 33 | 35 | 37 | 40 | 41 | 46 | 55 => [.fixed 1]  -- an entry, a position or a level
  | 34 => [.fixed 4]                             -- AREA-WATCH: set of areas
  | 36 => [.fixed 1, .fixed 3, .fixed 4]         -- SPECIES-SET: entry, code, quota
  | 38 => [.fixed 3, .fixed 1, .fixed 2]         -- FACTOR-SET: code, form, factor
  | 39 => [.fixed 3, .fixed 1]                   -- FACTOR-CLEAR: code, form
  | 42 => [.fixed 2, .fixed 3, .fixed 1, .fixed 4, .fixed 1]  -- POST-CATCH
  | 43 => [.fixed 2]                             -- REPORT-TIME-SET: minute
  | 47 => [.fixed 1, .fixed 2]                   -- DISTRESS: nature, persons
  | 50 => [.fixed 2]                             -- ALARM-ACK: serial
  | 54 => [.fixed 1, .fixed 2]                   -- GRANT-SET: port, map
  | 56 => [.fixed 3, .counted, .counted]         -- SHIP-SET: number, name, call sign
  | 57 => [.fixed 2]                             -- ROUTE-SET: kinds
  | _ => []

/-- The widths of a request's arguments, in the order its rule lists them. -/
def requestWidths (kind : Nat) : List Width := if kind ≤ 26 then storeWidths kind else unitWidths kind

/-- The `i`-th field of a body as a number, as a signed number, as bytes, and as a flag. -/
def numField (f : List (List Byte)) (i : Nat) : Nat := natOfBytes (f.getD i [])
def intField (f : List (List Byte)) (i : Nat) : Int := (BitVec.ofNat 32 (numField f i)).toInt
def textField (f : List (List Byte)) (i : Nat) : List Byte := f.getD i []
def flagField (f : List (List Byte)) (i : Nat) : Bool := numField f i != 0

/-- A field that may be absent: a presence byte, then the field at its width (R214). Any presence byte that is not 0 is taken as
present, as a flag byte is (model choice, log entry 31). -/
def optionField (f : List (List Byte)) (i : Nat) : Option Nat := if flagField f i then some (numField f (i + 1)) else none

/-- The message-store and station requests, kinds 1 to 26 (10.6). -/
def storeCommand (r : Req) (f : List (List Byte)) : Nat → Instr
  | 1 => .create r (numField f 0) (numField f 1)
  | 2 => .append r (numField f 0) (textField f 1)
  | 3 => .submit r (numField f 0)
  | 4 => .withdraw r (numField f 0)
  | 5 => .delete r (numField f 0)
  | 6 => .list r (numField f 0) (numField f 1) (numField f 2)
  | 7 => .read r (numField f 0) (numField f 1) (numField f 2)
  | 8 => .keepSet r (numField f 0)
  | 9 => .keepClear r (numField f 0)
  | 10 => .readLog r ((optionField f 0).map (BitVec.ofNat 16))
  | 11 => .stationSet r (numField f 0)
      { number := numField f 1, name := textField f 2, traffic := flagField f 3, broadcast := flagField f 4
        authority := flagField f 5, channels := (textField f 6).map (·.toNat), attempts := numField f 7 }
  | 12 => .stationClear r (numField f 0)
  | 13 => .stationGet r (numField f 0)
  | 14 => .channelGet r (numField f 0)
  | 15 => .areaGet r (numField f 0)
  | 16 => .fixStatus r
  | 17 => .holdStation r (numField f 0)
  | 18 => .releaseStation r (numField f 0)
  | 19 => .channelSet r (numField f 0)
      { tx := numField f 1, rx := numField f 2, use := numField f 3, startHour := numField f 4, endHour := numField f 5
        disabled := flagField f 6 }
  | 20 => .channelClear r (numField f 0)
  | 21 => .channelDisable r (numField f 0)
  | 22 => .channelEnable r (numField f 0)
  | 23 => .setTime r (BitVec.ofNat 32 (numField f 0))
  | 24 => .position r (intField f 0) (intField f 1)
  | 25 => .areaSet r (numField f 0)
      { name := textField f 1, south := intField f 2, north := intField f 3, west := intField f 4, east := intField f 5 }
  | 26 => .areaClear r (numField f 0)
  | k => .unknownRequest r k

/-- The other requests, kinds 27 to 61 (10.6); every other number is no request kind. -/
def unitCommand (r : Req) (f : List (List Byte)) : Nat → Instr
  | 27 => .callNow r (numField f 0)
  | 28 => .watchStation r (optionField f 0)
  | 29 => .acceptSet r (numField f 0) (numField f 1) (numField f 2)
  | 30 => .acceptGet r
  | 31 => .scheduleSet r (numField f 0)
      { station := numField f 1, channel := numField f 2, start := numField f 3, duration := numField f 4
        mode := numField f 5, enabled := flagField f 6 }
  | 32 => .scheduleClear r (numField f 0)
  | 33 => .scheduleGet r (numField f 0)
  | 34 => .areaWatch r (BitVec.ofNat 32 (numField f 0))
  | 35 => .bulletinRegister r (numField f 0)
  | 36 => .speciesSet r (numField f 0) (textField f 1) (numField f 2)
  | 37 => .speciesClear r (numField f 0)
  | 38 => .factorSet r (textField f 0) (numField f 1) (numField f 2)
  | 39 => .factorClear r (textField f 0) (numField f 1)
  | 40 => .speciesGet r (numField f 0)
  | 41 => .factorGet r (numField f 0)
  | 42 => .postCatch r (numField f 0) (textField f 1) (numField f 2) (numField f 3) (numField f 4)
  | 43 => .reportTimeSet r (numField f 0)
  | 44 => .reportNow r
  | 45 => .tripStart r
  | 46 => .tally r (numField f 0)
  | 47 => .distress r (numField f 0) (numField f 1)
  | 48 => .distressCancel r
  | 49 => .distressClose r
  | 50 => .alarmAck r (numField f 0)
  | 51 => .distressList r
  | 52 => .radioRestore r
  | 53 => .radioStatus r
  | 54 => .grantSet r (numField f 0) (BitVec.ofNat 16 (numField f 1))
  | 55 => .distressLevelSet r (numField f 0)
  | 56 => .shipSet r (numField f 0) (textField f 1) (textField f 2)
  | 57 => .routeSet r (BitVec.ofNat 16 (numField f 0))
  | 58 => .poll r
  | 59 => .status r
  | 60 => .saveSettings r
  | 61 => .restart r
  | k => .unknownRequest r k

/-- The request of a good frame: its kind, its fields and whether its body fits (R200, 11.3). -/
def requestCommand (port : Port) (tag : Byte) (kind : Nat) (body : List Byte) : Instr :=
  let fields := splitFields (requestWidths kind) body
  let r : Req := { port, tag, fits := fields.isSome }
  if kind ≤ 26 then storeCommand r (fields.getD []) kind else unitCommand r (fields.getD []) kind

/-- The command of a console frame, from the bytes after its start byte: length, tag, kind, body and CRC, to the count the
length gives (R199, 11.3). -/
def consoleCommand (port : Port) (l : List Byte) : Instr :=
  let n := fieldAt l 0 1
  if 250 < n ∨ !checkAfter (n + 3) l then .badFrame port
  else requestCommand port (byteAt l 1) (fieldAt l 2 1) ((l.drop 3).take n)

/-! ### The receivers that hunt for a start byte (R199, R215) -/

/-- The inputs with a start byte: a console port, the control link and the navigation line. -/
inductive RxLine
  | console (p : Port)
  | control
  | navigation
  deriving DecidableEq, Repr

/-- The byte that a receiver hunts for (R199, R215). -/
def RxLine.startByte : RxLine → Byte
  | .console _ => 0x7E
  | .control => 0xC3
  | .navigation => 0xA5

/-- The command of a start byte, and of a byte discarded in the hunt, which a link receiver tells no one (R199, R215). -/
def RxLine.began : RxLine → Instr
  | .console p => .consoleStartByte p
  | .control => .linkStartByte .control
  | .navigation => .linkStartByte .navigation

def RxLine.skipped : RxLine → List Instr
  | .console p => [.huntingByteDiscarded p]
  | .control | .navigation => []

/-- The command of a gap between two bytes: more than 20 ms at a console, 100 ms on the two links (R199, R215). -/
def RxLine.gap : RxLine → Instr
  | .console p => .consoleInterByteTimeout p
  | .control => .linkInterByteTimeout .control
  | .navigation => .linkInterByteTimeout .navigation

/-- The bytes after a start byte: nothing while the message goes on, else its command and whether it is good. A console
frame's count is in its length byte, and it is bad at once when that exceeds 250 (R199); the links take five and eleven bytes
(R215, 11.4). A control answer whose check holds is good whichever radio it names, so the hunt goes on behind it (model choice,
log entry 31). -/
def RxLine.taken (i : RxLine) (l : List Byte) : Option (Instr × Bool) :=
  match i with
  | .console p =>
    let n := fieldAt l 0 1
    if l.isEmpty then none
    else if 250 < n then some (.badFrame p, false)
    else if l.length < n + 5 then none
    else some (consoleCommand p l, checkAfter (n + 3) l)
  | .control => if l.length < 5 then none else some (controlAnswer l, checkAfter 3 l)
  | .navigation => if l.length < 11 then none else some (positionCommand l, checkAfter 9 l)

/-- A receiver reads bytes: `held` are the bytes of the message under way from its start byte on, none while it hunts. A bad
message is discarded and the hunt resumes at the byte after its start byte, so a good one inside it is still found. The
commands come in the order of the receiver's events, with the bytes then held; `k` bounds the bytes read, those read again
counted. -/
def RxLine.read (i : RxLine) : Nat → List Byte → List Byte → List Instr × List Byte
  | 0, held, _ => ([], held)
  | _ + 1, held, [] => ([], held)
  | k + 1, [], b :: input =>
    if b = i.startByte then
      let (cs, rest) := i.read k [b] input
      (i.began :: cs, rest)
    else
      let (cs, rest) := i.read k [] input
      (i.skipped ++ cs, rest)
  | k + 1, start :: after, b :: input =>
    let message := after ++ [b]
    match i.taken message with
    | none => i.read k (start :: message) input
    | some (c, good) =>
      let (cs, rest) := i.read k [] (if good then input else message ++ input)
      (c :: cs, rest)

/-- No message is longer than 256 bytes, so no byte is read more often than this. -/
def mostReadings (l : List Byte) : Nat := 256 * (l.length + 1)

/-- The commands of bytes that arrive at a receiver which holds `held`, and the bytes it then holds. -/
def RxLine.receive (i : RxLine) (held input : List Byte) : List Instr × List Byte :=
  i.read (mostReadings (held ++ input)) held input

/-- A gap in the message under way: it is discarded, and the hunt resumes at the byte after its start byte; a message found
there has the gap too. -/
def RxLine.gapIn (i : RxLine) : Nat → List Byte → List Instr
  | 0, _ => []
  | _ + 1, [] => []
  | k + 1, _ :: after =>
    let (cs, held) := i.receive [] after
    i.gap :: (cs ++ i.gapIn k held)

/-- The commands of a gap at a receiver that holds `held`. -/
def RxLine.timeOut (i : RxLine) (held : List Byte) : List Instr := i.gapIn held.length held

/-- A frame on a console line around its body: start byte, length, tag, kind, body, CRC-16 (11.3). -/
def frameBytes (tag : Byte) (kind : Nat) (body : List Byte) : List Byte :=
  let inner := bytesOfNat 1 body.length ++ [tag] ++ bytesOfNat 1 kind ++ body
  0x7E :: (inner ++ crc16Bytes inner)

end Sys2Proof.Machine
end

