-- ==== Sys2Proof/Machine/AnswerBytes.lean ====
section
/-! DEFINITION. The bytes of the frames that the part sends to a console (R201, R206, R214, 11.3, log entry 31). The output
queues hold answers and notices as data; these functions say how they lie in their frames. Enumerations that 11.1 codes by
position take the position of the constructor: the constructors stand in the order of the list that defines them, or, where no
list of the spec does, in an order that is the model's choice (log entries 67 and 68). -/

namespace Sys2Proof.Machine

/-! ### Fields (R214) -/

def flagByte (b : Bool) : List Byte := [byteOfBool b]

/-- A field of a width that may be absent: its presence byte, then the field, or zeros. -/
def optNat (width : Nat) (v : Option Nat) : List Byte := slotBytes width (v.map (bytesOfNat width))

def optTime (v : Option Time) : List Byte := slotBytes 4 (v.map bytesOfTime)

/-- A list: its count, then its entries. -/
def countedBytes {α : Type} (f : α → List Byte) (l : List α) : List Byte := bytesOfNat 1 l.length ++ (l.map f).flatten

/-- A service state: IN-SERVICE 0, OUT-OF-SERVICE 1 (R183). -/
def serviceByte (inService : Bool) : List Byte := bytesOfNat 1 (if inService then 0 else 1)

/-- A day number as two bytes; the day before day 0 wraps (log entry 24). -/
def dayBytes (d : Int) : List Byte := bytesOfNat 2 (BitVec.ofInt 16 d).toNat

def Span.bytes (s : Span) : List Byte := bytesOfNat 2 s.fromDay ++ bytesOfNat 2 s.toDay

def BulletinKind.letter : BulletinKind → Byte
  | .weather => 0x57
  | .navigation => 0x4E
  | .ice => 0x49
  | .gale => 0x47

/-- The identity as a BEGIN payload opens (11.2). -/
def BulletinId.bytes (i : BulletinId) : List Byte := [i.letter1, i.letter2, i.kind.letter] ++ bytesOfNat 1 i.serial

/-- Ports 1 to 3, AIR and COMPOSER by their position in R4. -/
def Originator.code : Originator → Nat
  | .port .p1 => 0
  | .port .p2 => 1
  | .port .p3 => 2
  | .air => 3
  | .composer => 4

/-- The number of a port (R203). -/
def portNumber : Port → Nat
  | .p1 => 1
  | .p2 => 2
  | .p3 => 3

/-- A claim's claimant and class (R198). The claimants are numbered in the order in which the class table of 9.3 first names them:
the distress unit 0, the broadcast receiver 1, the link engine 2 (model choice, log entry 69). -/
def Claim.bytes (c : Claim) : List Byte :=
  bytesOfNat 1 (match c with
    | .distress => 0
    | .must _ | .optional _ => 1
    | .session | .call | .watch => 2) ++ bytesOfNat 1 c.cls

/-! ### Parts of answers -/

/-- A change that an answer names: its code, which is its constructor's position, and the value that it gives or 0 (R201; no list
of the spec numbers the changes: model choice, log entry 68). -/
def Change.bytes (c : Change) : List Byte :=
  bytesOfNat 1 c.ctorIdx ++ bytesOfNat 2 (match c with
    | .attemptsClamped n | .authorityCleared n | .cellKept n | .durationClamped n | .serialClamped n => n
    | _ => 0)

def changesBytes (l : List Change) : List Byte := countedBytes Change.bytes l

def Summary.bytes (m : Summary) : List Byte :=
  bytesOfNat 2 m.number ++ bytesOfNat 1 m.dir.ctorIdx ++ bytesOfNat 1 m.prec.code ++ bytesOfNat 1 m.state.ctorIdx ++
    bytesOfNat 1 m.orig.code ++ bytesOfNat 3 m.peer ++ optNat 2 m.peerRef ++ bytesOfTime m.created ++
    bytesOfNat 2 m.textLen ++ flagByte m.keep ++ flagByte m.withdrawPending ++
    slotBytes 4 (m.identity.map BulletinId.bytes) ++ optNat 2 m.errFig ++ flagByte m.readHere

def LogEntry.bytes (e : LogEntry) : List Byte :=
  bytesOfNat 2 e.number.toNat ++ bytesOfNat 1 e.kind.ctorIdx ++ bytesOfNat 3 e.peer ++ bytesOfNat 1 e.channel ++
    bytesOfTime e.began ++ flagByte e.begun ++ flagByte e.ended ++ optTime e.endTime ++
    optNat 1 (e.outcome.map (·.ctorIdx)) ++ optNat 2 e.msg ++ optNat 2 e.errFig

/-- The fields of R27, then the Q and the score of each listed channel (R29). The channel list stands as the six index bytes of
an image's entry and the pairs in 24 bytes, both filled with zeros and with no count byte (model choice, log entry 31). -/
def stationBytes (st : Station) (channels : List (Nat × Nat × Nat)) : List Byte :=
  st.cfg.bytes ++ flagByte st.shoreHold ++ flagByte st.consoleHold ++ bytesOfNat 1 st.k ++ optTime st.nextCall ++
    padTo (4 * Config.listChannels) (channels.map fun c => bytesOfNat 2 c.2.1 ++ bytesOfNat 2 c.2.2).flatten

def Fix.bytes (f : Fix) : List Byte :=
  bytesOfInt f.lat ++ bytesOfInt f.lon ++ bytesOfTime f.time ++ bytesOfNat 1 f.source.ctorIdx

def RegEntry.bytes (e : RegEntry) : List Byte :=
  e.identity.bytes ++ bytesOfTime e.received ++ bytesOfNat 2 e.errFig ++ optNat 2 e.msg

def OwnRecord.bytes (o : OwnRecord) : List Byte :=
  bytesOfNat 1 o.state.code ++ bytesOfNat 1 o.nature.code ++ bytesOfNat 1 o.persons ++ bytesOfNat 1 o.serial.toNat ++
    optTime o.started ++ bytesOfNat 1 o.rotPos ++ optTime o.nextCycle ++ optNat 3 o.ackStation

def DistressEntry.bytes (e : DistressEntry) : List Byte :=
  bytesOfNat 3 e.ship ++ bytesOfNat 1 e.nature.code ++ bytesOfInt e.lat ++ bytesOfInt e.lon ++ bytesOfTime e.fixTime ++
    flagByte e.stale ++ bytesOfNat 1 e.persons ++ bytesOfNat 1 e.channel ++ bytesOfTime e.first ++ bytesOfTime e.last ++
    bytesOfNat 1 e.count ++ bytesOfNat 2 e.serial ++ bytesOfNat 1 e.state.ctorIdx

/-! ### Answers (R201) -/

/-- What follows the answer code byte: the fields in the order the rules list them, with the changes of a PARTIAL last. The fix
age of FIX-STATUS takes 4 bytes and the skipped count of READ-LOG 2, and fields that are absent together stand behind one
presence byte, which in STATUS is the in-force flag of silence too. An answer of REPORT-NOW opens with a byte for the course of
R157, 0 no authority, 1 pending, 2 composed, 3 deferred, and shows a re-queued report by an absent state (model choice, log entry
31). The result of the last save in STATUS is NONE 0, DONE 1 or FAILED 2 (R209, R211; model choice, log entry 67). -/
def Answer.fields (a : Answer) : List Byte :=
  match a.body with
  | .none => []
  | .changes l => changesBytes l
  | .created msg l => bytesOfNat 2 msg ++ changesBytes l
  | .appended accepted replaced l => bytesOfNat 1 accepted ++ bytesOfNat 1 replaced ++ changesBytes l
  | .listed l more => countedBytes Summary.bytes l ++ flagByte more
  | .bytes l textLen => bytesOfNat 1 l.length ++ l ++ bytesOfNat 2 textLen
  | .logEntries l skipped => countedBytes LogEntry.bytes l ++ optNat 2 skipped
  | .station st channels => stationBytes st channels
  | .channel c score failedLately =>
      c.cfg.bytes ++ bytesOfNat 2 c.q ++ optTime c.lastFail ++ bytesOfNat 2 score ++ flagByte failedLately
  | .delta d => bytesOfInt d
  | .area area => area.bytes
  | .fixStatus now source fix stale set primary watched =>
      bytesOfTime now ++ bytesOfNat 1 source.code ++
        slotBytes 17 (fix.map fun f => f.1.bytes ++ bytesOfNat 4 f.2) ++ flagByte stale ++
        slotBytes 4 (set.map areaSetBytes) ++ bytesOfNat 1 primary ++ areaSetBytes watched
  | .callNow due noTraffic engaged => flagByte due ++ flagByte noTraffic ++ flagByte engaged
  | .watchChannel any l => flagByte any ++ changesBytes l
  | .cells individual collective => (individual ++ collective).map fun a => BitVec.ofNat 8 a.code
  | .schedule station channel start duration must enabled lastTaken window =>
      ({ station, channel, start, duration, must, enabled } : ScheduleCfg).bytes ++
        slotBytes 2 (lastTaken.map dayBytes) ++ optNat 1 (window.map (·.ctorIdx))
  | .areas l => areaSetBytes l
  | .register l held => countedBytes RegEntry.bytes l ++ bytesOfNat 1 held
  | .species code quota state sum => code ++ bytesOfNat 4 quota ++ bytesOfNat 1 state.code ++ bytesOfNat 4 sum
  | .factors l held => countedBytes Factor.bytes l ++ bytesOfNat 1 held
  | .posted haul factor live area day trip sum state unconverted saturated clamped =>
      bytesOfNat 2 haul ++ bytesOfNat 2 factor ++ bytesOfNat 4 live ++ bytesOfNat 1 area ++ bytesOfNat 4 day ++
        bytesOfNat 4 trip ++ bytesOfNat 4 sum ++ bytesOfNat 1 state.code ++ flagByte unconverted ++ flagByte saturated ++
        flagByte clamped
  | .noAuthority => bytesOfNat 1 0
  | .pendingReports l =>
      bytesOfNat 1 1 ++ countedBytes (fun e => bytesOfNat 2 e.1 ++ optNat 1 (e.2.map (·.ctorIdx))) l
  | .composed msg span => bytesOfNat 1 2 ++ bytesOfNat 2 msg ++ span.bytes
  | .deferredSince spanStart => bytesOfNat 1 3 ++ optNat 2 spanStart
  | .tally rows held spanStart reportTime deferred lastConfirmed pendingReports =>
      countedBytes Row.bytes rows ++ bytesOfNat 1 held ++ optNat 2 spanStart ++ bytesOfNat 2 reportTime ++
        flagByte deferred ++ slotBytes 4 (lastConfirmed.map Span.bytes) ++ countedBytes (bytesOfNat 2) pendingReports
  | .own state serial l => bytesOfNat 1 state.code ++ bytesOfNat 1 serial.toNat ++ changesBytes l
  | .alarm applied seen active l => bytesOfNat 2 applied ++ bytesOfNat 1 seen ++ flagByte active ++ changesBytes l
  | .distressList own active highest new entries =>
      own.bytes ++ flagByte active ++ bytesOfNat 2 highest ++ bytesOfNat 1 new ++ countedBytes DistressEntry.bytes entries
  | .restored main watch => serviceByte main ++ serviceByte watch
  | .radios mainIn mainFaults mainTuned mainFlight keyed watchIn watchFaults dwell pos watchTuned holder yieldAsked
      waiting =>
      serviceByte mainIn ++ bytesOfNat 1 mainFaults ++ optNat 1 mainTuned ++ optNat 1 mainFlight ++ flagByte keyed ++
        serviceByte watchIn ++ bytesOfNat 1 watchFaults ++ bytesOfNat 1 dwell.ctorIdx ++ bytesOfNat 1 pos ++
        optNat 1 watchTuned ++ slotBytes 2 (holder.map Claim.bytes) ++ flagByte yieldAsked ++
        countedBytes Claim.bytes waiting
  | .grants mask map => bytesOfNat 2 mask.toNat ++ bytesOfNat 2 map.toNat
  | .flags flags overrun => bytesOfNat 2 flags.toNat ++ flagByte overrun
  | .status level holds map frameError freePages freeRecords own mainIn watchIn source silence save lastSave defaults ship
      identityDefaulted =>
      bytesOfNat 1 level.toNat ++ bytesOfNat 2 holds.toNat ++ bytesOfNat 2 map.toNat ++ flagByte frameError ++
        bytesOfNat 2 freePages ++ bytesOfNat 1 freeRecords ++ bytesOfNat 1 own.code ++ serviceByte mainIn ++
        serviceByte watchIn ++ bytesOfNat 1 source.code ++
        slotBytes 7 (silence.map fun q => bytesOfNat 3 q.1 ++ bytesOfTime q.2) ++ bytesOfNat 1 save.ctorIdx ++
        bytesOfNat 1 lastSave.ctorIdx ++ flagByte defaults ++ bytesOfNat 3 ship ++ flagByte identityDefaulted
  | .saving waits => flagByte waits

/-- The body of an answer: its code by the table of R201, then its fields (11.3). -/
def Answer.bytes (a : Answer) : List Byte := bytesOfNat 1 a.code.ctorIdx ++ a.fields

/-! ### Notices (10.3) -/

/-- What follows the notice kind byte. The started time of OWN-ALERT and the span of REPORT-CONFIRMED and REPORT-OVERDUE stand
behind a presence byte, since their records hold them as fields that may be absent, and so does the entry of
DISTRESS-RECEIVED as a whole. Each count of SESSION takes one byte, which wraps at 256 (model choice, log entry 31). A load result
of STARTED is a flag byte, set for a good load (model choice, log entry 66). Values that no list or table defines are numbered
in the order in which the rules name them: the areas SETTINGS 0 and TALLY 1 and the causes LOAD-BAD 0 and SAVE-FAILED 1 of
SETTINGS-LOST, the causes FAULTS 0 and RESTORED 1 of RADIO-FAULT, POWER-ON 0 and RESTART 1 of STARTED, and IMPOSED 0, RENEWED 1,
EXPIRED 2 and ENDED 3 of SILENCE (model choice, log entry 67). -/
def Notice.fields : Notice → List Byte
  | .distressReceived serial entry new =>
      bytesOfNat 2 serial ++
        slotBytes 12 (entry.map fun e => bytesOfNat 3 e.1 ++ bytesOfNat 1 e.2.1.code ++ bytesOfInt e.2.2.1 ++
          bytesOfInt e.2.2.2) ++ bytesOfNat 1 new
  | .ownAlert cause state nature persons serial since ackStation sent =>
      bytesOfNat 1 cause.ctorIdx ++ bytesOfNat 1 state.code ++ bytesOfNat 1 nature.code ++ bytesOfNat 1 persons ++
        bytesOfNat 1 serial.toNat ++ optTime since ++ optNat 3 ackStation ++ optNat 1 sent
  | .silence inForce imposer endTime cause =>
      flagByte inForce ++ optNat 3 imposer ++ optTime endTime ++ bytesOfNat 1 cause.ctorIdx
  | .radioFault radio inService cause channel =>
      bytesOfNat 1 radio.code ++ serviceByte inService ++ bytesOfNat 1 cause.ctorIdx ++ optNat 1 channel
  | .settingsLost area cause => bytesOfNat 1 area.ctorIdx ++ bytesOfNat 1 cause.ctorIdx
  | .started cause levels settingsGood tallyGood =>
      bytesOfNat 1 cause.ctorIdx ++ bytesOfNat 1 levels.p1.toNat ++ bytesOfNat 1 levels.p2.toNat ++
        bytesOfNat 1 levels.p3.toNat ++ flagByte settingsGood ++ flagByte tallyGood
  | .clockStepped old new source => bytesOfTime old ++ bytesOfTime new ++ bytesOfNat 1 source.code
  | .alarmAcked serial port => bytesOfNat 2 serial ++ bytesOfNat 1 (portNumber port)
  | .newMessage msg | .delivered msg | .failed msg => bytesOfNat 2 msg
  | .reportConfirmed msg span | .reportOverdue msg span => bytesOfNat 2 msg ++ slotBytes 4 (span.map Span.bytes)
  | .reportDeferred trigger spanStart => bytesOfNat 1 trigger.ctorIdx ++ optNat 2 spanStart
  | .quotaNear code sum quota haul | .quotaReached code sum quota haul =>
      code ++ bytesOfNat 4 sum ++ bytesOfNat 4 quota ++ optNat 2 haul
  | .bulletinStored msg identity errFig station =>
      bytesOfNat 2 msg ++ identity.bytes ++ bytesOfNat 2 errFig ++ bytesOfNat 3 station
  | .bulletinMissed entry station opening outcome =>
      bytesOfNat 1 entry ++ bytesOfNat 3 station ++ bytesOfTime opening ++ bytesOfNat 1 outcome.ctorIdx
  | .session station outcome sent kept =>
      bytesOfNat 3 station ++ bytesOfNat 1 outcome.ctorIdx ++ bytesOfNat 1 sent ++ bytesOfNat 1 kept
  | .holdChanged station shore console => bytesOfNat 3 station ++ flagByte shore ++ flagByte console
  | .logAdvanced | .storeLow => []
  | .positionStale fix => fix.bytes
  | .noAuthority trigger => bytesOfNat 1 trigger.ctorIdx

/-- The body of a notice frame: the kind byte, then the fields (11.3). -/
def Notice.bytes (n : Notice) : List Byte := bytesOfNat 1 n.kind ++ n.fields

/-! ### Frames (11.3) -/

/-- Most bytes in the body of a frame (R199). -/
def bodyMost : Nat := 250

/-- A body in pieces of at most 250 bytes, at least one; `k` bounds the pieces. -/
def pieces : Nat → List Byte → List (List Byte)
  | 0, l => [l]
  | k + 1, l => if l.length ≤ bodyMost then [l] else l.take bodyMost :: pieces k (l.drop bodyMost)

/-- The frames around a body: one where it fits, as every body does but that of a long LIST or DISTRESS-LIST, of a TALLY of 16
rows with 14 or more pending reports and of a REPORT-NOW with 62 or more, for which the spec gives no layout (model choice, log
entry 31). -/
def framesOf (tag : Byte) (kind : Nat) (body : List Byte) : List Byte :=
  ((pieces (body.length / bodyMost) body).map (frameBytes tag kind)).flatten

/-- The bytes of a frame in an output queue: an answer repeats its request's tag and kind, a notice has tag and kind 0. -/
def OutFrame.bytes : OutFrame → List Byte
  | .answer tag kind a => framesOf tag kind.code a.bytes
  | .notice n => framesOf 0 0 n.bytes

/-- The line bits of a frame on a console port, as asynchronous characters (R214). -/
def OutFrame.lineBits (f : OutFrame) : List Bool := characters f.bytes

end Sys2Proof.Machine
end

