-- ==== Sys2Proof/Tests/Slice0.lean ====
section
/-! SUPPORT. Tests: ill-formed commands, the worked values of the spec, single commands on small states, and for each
statement states that meet its hypotheses, clause by clause, at the ends of their ranges. -/

namespace Sys2Proof.Tests

set_option Elab.async false

open Sys2Proof Sys2Proof.Machine

/-! ### Well-formedness: one ill-formed term for each check -/

def q1 : Req := ⟨.p1, 7, true⟩
def q2 : Req := ⟨.p2, 9, true⟩
def long : List Byte := List.replicate 251 0x41
def stn (number attempts : Nat) (name : List Byte) (channels : List Nat) : StationArgs :=
  ⟨number, name, true, true, false, channels, attempts⟩
def chn (tx rx use startHour endHour : Nat) : ChannelArgs := ⟨tx, rx, use, startHour, endHour, false⟩
def box (name : List Byte) (south north west east : Int) : AreaArgs := ⟨name, south, north, west, east⟩
def sch (station channel start duration mode : Nat) : ScheduleArgs := ⟨station, channel, start, duration, mode, true⟩
def hdr (count code : Nat) (check : Bool := true) : RxHeader := ⟨check, 0, count, code, true⟩
def frm (kind used len : Nat) : RxFrame := ⟨true, 0, kind, used, List.replicate len 0⟩
def big : Int := 2 ^ 31

theorem test_wellFormed_refuses_message_operands :
    ([.create q1 (2 ^ 24) 0, .create q1 0 256, .append q1 (2 ^ 16) [], .append q1 0 long, .submit q1 (2 ^ 16),
      .withdraw q1 (2 ^ 16), .delete q1 (2 ^ 16), .list q1 256 0 0, .list q1 0 256 0, .list q1 0 0 (2 ^ 16),
      .read q1 (2 ^ 16) 0 0, .read q1 0 (2 ^ 16) 0, .read q1 0 0 256, .keepSet q1 (2 ^ 16),
      .keepClear q1 (2 ^ 16)] : List Instr).all (fun c => !c.wellFormed) = true := by decide +kernel

theorem test_wellFormed_refuses_table_operands :
    ([.stationSet q1 256 (stn 0 0 [] []), .stationSet q1 0 (stn (2 ^ 24) 0 [] []), .stationSet q1 0 (stn 0 256 [] []),
      .stationSet q1 0 (stn 0 0 long []), .stationSet q1 0 (stn 0 0 [] [256]),
      .stationSet q1 0 (stn 0 0 [] (List.replicate 251 0)), .stationClear q1 256, .stationGet q1 256,
      .holdStation q1 (2 ^ 24), .releaseStation q1 (2 ^ 24), .channelSet q1 256 (chn 0 0 0 0 0),
      .channelSet q1 0 (chn (2 ^ 24) 0 0 0 0), .channelSet q1 0 (chn 0 (2 ^ 24) 0 0 0), .channelSet q1 0 (chn 0 0 256 0 0),
      .channelSet q1 0 (chn 0 0 0 256 0), .channelSet q1 0 (chn 0 0 0 0 256), .channelClear q1 256,
      .channelDisable q1 256, .channelEnable q1 256, .channelGet q1 256, .position q1 big 0, .position q1 0 (-big - 1),
      .areaSet q1 256 (box [] 0 0 0 0), .areaSet q1 0 (box long 0 0 0 0), .areaSet q1 0 (box [] big 0 0 0),
      .areaSet q1 0 (box [] 0 big 0 0), .areaSet q1 0 (box [] 0 0 big 0), .areaSet q1 0 (box [] 0 0 0 big),
      .areaClear q1 256, .areaGet q1 256, .callNow q1 (2 ^ 24), .watchStation q1 (some (2 ^ 24))] : List Instr).all
      (fun c => !c.wellFormed) = true := by decide +kernel

theorem test_wellFormed_refuses_schedule_and_catch_operands :
    ([.acceptSet q1 256 0 0, .acceptSet q1 0 256 0, .acceptSet q1 0 0 256, .scheduleSet q1 256 (sch 0 0 0 0 0),
      .scheduleSet q1 0 (sch 256 0 0 0 0), .scheduleSet q1 0 (sch 0 256 0 0 0), .scheduleSet q1 0 (sch 0 0 (2 ^ 16) 0 0),
      .scheduleSet q1 0 (sch 0 0 0 256 0), .scheduleSet q1 0 (sch 0 0 0 0 256), .scheduleClear q1 256,
      .scheduleGet q1 256, .bulletinRegister q1 256, .speciesSet q1 256 [0, 0, 0] 0, .speciesSet q1 0 [0, 0] 0,
      .speciesSet q1 0 [0, 0, 0] (2 ^ 32), .speciesClear q1 256, .speciesGet q1 256, .factorSet q1 [0, 0] 0 0,
      .factorSet q1 [0, 0, 0] 256 0, .factorSet q1 [0, 0, 0] 0 (2 ^ 16), .factorClear q1 [] 0,
      .factorClear q1 [0, 0, 0] 256, .factorGet q1 256, .postCatch q1 (2 ^ 16) [0, 0, 0] 0 0 0, .postCatch q1 0 [0] 0 0 0,
      .postCatch q1 0 [0, 0, 0] 256 0 0, .postCatch q1 0 [0, 0, 0] 0 (2 ^ 32) 0, .postCatch q1 0 [0, 0, 0] 0 0 256,
      .reportTimeSet q1 (2 ^ 16), .tally q1 256] : List Instr).all (fun c => !c.wellFormed) = true := by decide +kernel

theorem test_wellFormed_refuses_port_operands_and_bursts :
    ([.distress q1 256 0, .distress q1 0 (2 ^ 16), .alarmAck q1 (2 ^ 16), .grantSet q1 256 0, .distressLevelSet q1 256,
      .shipSet q1 (2 ^ 24) [] [], .shipSet q1 0 long [], .shipSet q1 0 [] long, .unknownRequest q1 61,
      .unknownRequest q1 256, .callBurst .main (2 ^ 24) 0 0 0, .callBurst .main 0 (2 ^ 24) 0 0, .callBurst .main 0 0 256 0,
      .callBurst .main 0 0 0 256, .acceptBurst .main (2 ^ 24) 0, .acceptBurst .main 0 (2 ^ 24),
      .rejectBurst .main (2 ^ 24) 0 0, .rejectBurst .main 0 (2 ^ 24) 0, .rejectBurst .main 0 0 256,
      .clearBurst .main 256, .volleyBurst .main (hdr 256 0) [], .volleyBurst .main (hdr 1 4) [],
      .volleyBurst .main (hdr 2 0) [frm 0 0 8], .volleyBurst .main (hdr 1 0) [frm 0 0 16],
      .volleyBurst .main (hdr 1 0) [frm 8 0 8], .volleyBurst .main (hdr 1 0) [frm 0 256 8],
      .volleyBurst .main (hdr 1 0 false) [frm 0 0 8], .volleyBurst .main (hdr 0 0) [frm 0 0 8],
      .volleyBurst .main (hdr 5 0) (List.replicate 5 (frm 0 0 8)), .volleyBurst .main (hdr 1 3) [frm 0 0 8],
      .collectiveBurst .main ⟨2 ^ 24, 0, false, List.replicate 16 0⟩ 0,
      .collectiveBurst .main ⟨0, 0, false, List.replicate 15 0⟩ 0,
      .collectiveBurst .main ⟨0, 0, false, List.replicate 16 0⟩ 3,
      .collectiveDirectiveBurst .main ⟨0, 0, false, []⟩, .alertBurst .main ⟨2 ^ 24, 0, 0, 0, 0, false, 0, 0⟩,
      .alertBurst .main ⟨0, 256, 0, 0, 0, false, 0, 0⟩, .alertBurst .main ⟨0, 0, big, 0, 0, false, 0, 0⟩,
      .alertBurst .main ⟨0, 0, 0, big, 0, false, 0, 0⟩, .alertBurst .main ⟨0, 0, 0, 0, 0, false, 256, 0⟩,
      .carrierDrop .main (.volley (hdr 1 0) [frm 0 0 8]), .carrierDrop .main (.volley (hdr 0 0) []),
      .mainTuneAnswer true 0 256, .watchTuneAnswer true 0 256, .positionRecord true 256 0 0,
      .positionRecord true 0 big 0, .positionRecord true 0 0 big, .nextCallTimeExpiry 0, .nextCallTimeExpiry 17,
      .scheduleEntryDue 0, .scheduleEntryDue 25, .windowEnd 0, .windowEnd 25, .overdueTimerExpiry 0,
      .overdueTimerExpiry (2 ^ 16)] : List Instr).all (fun c => !c.wellFormed) = true := by decide +kernel

theorem test_wellFormed_accepts_commands_at_the_ends_of_their_ranges :
    ([.create q1 99999 4, .read q1 65535 3072 200, .stationSet q1 16 (stn 99999 8 [0x41] [1, 48]),
      .position q1 (big - 1) (-big), .unknownRequest q1 62, .unknownRequest q1 0, .volleyBurst .main (hdr 4 2)
        (List.replicate 4 (frm 7 255 32)), .volleyBurst .main (hdr 0 0) [], .carrierDrop .main (.volley (hdr 1 0) []),
      .overdueTimerExpiry 65535, .nextCallTimeExpiry 16, .windowEnd 24] : List Instr).all (·.wellFormed) = true := by
  decide +kernel

/-! ### Worked values of the spec -/

/-- R214: both checks over the characters 123456789. -/
theorem test_crc_check_values : crc16 (ascii "123456789") = 0x29B1#16 ∧ crc32 (ascii "123456789") = 0xCBF43926#32 := by
  decide +kernel

/-- R36: Q moves a quarter of the way, rounded away. -/
theorem test_quality_moves : moveQ 640 750 = 668 ∧ moveQ 668 0 = 501 ∧ moveQ 501 500 = 500 := by decide +kernel

/-- R143: live weights in kilograms. -/
theorem test_live_weights :
    liveWeight 12345 1170 = 1444 ∧ liveWeight 5 1000 = 1 ∧ liveWeight 4 1000 = 0 ∧ liveWeight 999999 9999 = 999899 := by
  decide +kernel

/-- R46: the generator and a draw of 60. -/
theorem test_random_draw :
    let d := ({ State.reset with time.prng := 2345678 } : State).draw 60
    d.2.time.prng = 1328305109#32 ∧ d.1 = 48 := by decide +kernel

/-! ### Small states -/

/-- A part that runs, tuned, with the clock set to day 1, 01:00. -/
def run : State :=
  { State.reset with
    phase := .running, time.now := 90000#32, time.source := .console, main.tuned := some 1 }

def station1 : Station :=
  { cfg := { number := 10001, name := [0x41], traffic := true, broadcast := true, authority := true, channels := [1]
             attempts := 2 }
    shoreHold := false, consoleHold := false, k := 0, nextCall := none, nextCallArmed := false, noChannel := false }

def channelOf (u : Use) : Channel :=
  { cfg := { tx := 16000, rx := 300000, use := u, startHour := 0, endHour := 0, disabled := false }, q := 500
    lastFail := none }

def cod : List Byte := [0x43, 0x4F, 0x44]
def had : List Byte := [0x48, 0x41, 0x44]

def record (cls : Cls) (dir : Dir) (state : MsgState) (textLen : Nat) : MsgRec :=
  { MsgRec.new 100 cls dir .routine state (if dir = .outbound then .port .p1 else .air) 10001 with
    textLen, text := List.replicate textLen 0x41, pages := if textLen = 0 then [] else [1000] }

/-- A part with tables, records and a tally. -/
def world : State :=
  { run with
    dir := {
      stations := [(1, station1), (2, { station1 with
        cfg := { station1.cfg with number := 10002, authority := false, traffic := false }, consoleHold := true })]
      channels := [(1, channelOf .traffic), (2, channelOf .broadcast), (3, channelOf .distress)] }
    store.recs := [(1, record .traffic .outbound .draft 0), (2, record .traffic .outbound .draft 3),
      (3, record .traffic .outbound .queued 3), (4, record .traffic .outbound .sending 3),
      (5, { record .traffic .outbound .sending 3 with withdrawPending := true }),
      (6, record .traffic .outbound .delivered 3), (7, record .traffic .outbound .failed 3),
      (8, record .report .outbound .confirmed 3), (9, record .traffic .inbound .stored 3),
      (10, record .traffic .inbound .receiving 3), (11, record .bulletin .inbound .stored 0),
      (12, record .traffic .outbound .draft 3072)]
    time.areas := [(1, ⟨[], -100, 100, 200, -200⟩)]
    catch_ := { Catch.initial with
      species := [(1, ⟨⟨cod, 100⟩, .none, false, false⟩), (2, ⟨⟨had, 0⟩, .none, false, false⟩)]
      factors := [⟨cod, .gut, 1170⟩]
      rows := [⟨cod, 0, 10, 20, false⟩] } 
    bcast.schedule := [(1, ⟨⟨1, 2, 60, 10, true, true⟩, some 1⟩)] }

/-- The record table all but full of drafts, which reclaim may not free. -/
def crowded : State :=
  { run with
    dir := world.dir
    store.recs := (List.range 120).map fun n => (n + 1, record .traffic .outbound .draft 0) }

def fixNow : Fix := ⟨0, 0, 90000#32, .nav, true⟩
def alertHeard : DistressEntry := ⟨2000000, .fire, 0, 0, 0, false, 1, 3, 0, 0, 1, 1, .new⟩

/-- A port whose straps give level 3, holding only the grants of floor 3. -/
def humble (s : State) : State := { s with ports.p2.level := 3 }

def saving (s : State) : State := { s with settings.writing := some (.settings s.imageCopy) }
def savingTally (s : State) : State := { s with settings.writing := some (.tally s.tallyCopy) }

/-! ### Single commands -/

/-- The state after a command; every command answers one. -/
def after (c : Instr) (s : State) : State :=
  match exec c s with
  | .next t => t
  | .fault _ => s
  | .refused _ => s

/-- The answers in a port's queue. -/
def answers (s : State) (p : Port) : List Answer :=
  (s.ports.get p).outQ.filterMap fun f => match f with
    | .answer _ _ a => some a
    | .notice _ => none

/-- The notices in a port's queue. -/
def notices (s : State) (p : Port) : List Notice :=
  (s.ports.get p).outQ.filterMap fun f => match f with
    | .answer .. => none
    | .notice n => some n

theorem test_create_takes_the_next_free_number :
    let t := after (.create q1 10001 0) world
    answers t .p1 = [⟨.partly, .created 13 [.precedenceClamped]⟩] ∧ t.store.next = 14 ∧
      (t.record 13).map (fun m => (m.prec, m.state)) = some (.urgency, .draft) := by decide +kernel

theorem test_append_takes_a_page_for_each_64_bytes :
    let t := after (.append q1 1 (List.replicate 65 0x61)) world
    answers t .p1 = [⟨.ok, .appended 65 0 []⟩] ∧ t.store.free.length = 1022 ∧
      (t.record 1).map (fun m => (m.text == List.replicate 65 0x41, m.pages)) = some (true, [0, 1]) := by decide +kernel

theorem test_submit_starts_a_round :
    let t := after (.submit q1 2) world
    (t.record 2).map (·.state) = some .queued ∧ t.link.state = .calling ∧ t.arb.holder = some .call ∧
      t.link.round.map (fun r => (r.station, r.phase, r.channel, r.calls)) = some (10001, .calling, 1, 1) ∧
      t.main.onAir = some (.call 10001 1000000 .traffic 2, .keying 0) := by decide +kernel

theorem test_read_log_of_an_empty_ring_places_the_cursor :
    let t := after (.readLog q1 (some 5)) { world with log.next := 2 }
    t.ports.p1.cursor = 2 ∧ t.ports.p2.cursor = 0 ∧ answers t .p1 = [⟨.empty, .logEntries [] (some 65533)⟩] := by
  decide +kernel

/-- R51: the worked sequence of areas 7 and 9 across the date line. -/
theorem test_points_across_the_date_line :
    let areas : Table Area :=
      [(7, ⟨[], 330000, 396000, 1020000, -1050000⟩), (9, ⟨[], 360000, 396000, -1080000, -1020000⟩)]
    areasAt areas 372000 1070000 = [7] ∧ areasAt areas 372000 (-1060000) = [7, 9] ∧
      areasAt areas 372000 (-1040000) = [9] ∧ areasAt areas 396000 1070000 = [] := by decide +kernel

theorem test_set_time_dates_the_schedule :
    let t := after (.setTime q2 172800) { world with time.source := .unset }
    t.time.now = 172800 ∧ t.time.source = .console ∧ (t.bcast.schedule.find 1).map (·.lastTaken) = some (some 1) ∧
      notices t .p1 = [.clockStepped 90000 172800 .console] := by decide +kernel

theorem test_post_catch_reaches_the_quota :
    let t := after (.postCatch q1 65535 cod 1 6838 0) world
    t.catch_.rows = [⟨cod, 0, 810, 820, false⟩] ∧ notices t .p1 = [.quotaReached cod 820 100 (some 65535)] := by
  decide +kernel

theorem test_distress_claims_and_calls_on_the_distress_channel :
    let t := after (.distress q1 0 300) world
    t.distress.state = .pending ∧ t.distress.persons = 255 ∧ t.distress.lamp = true ∧ t.distress.granted = true ∧
      (after .granted t).main.flight.map (·.channel) = some 3 := by decide +kernel

theorem test_grant_set_edits_held_bits_alone :
    let t := after (.grantSet q2 3 0xFFFF) { world with ports.p2.level := 1, ports.p2.map := 0x4000 }
    t.ports.p3.map = 0xCFFF ∧ answers t .p2 = [⟨.partly, .grants 0xCFFF 0xCFFF⟩] := by decide +kernel

theorem test_notices_behind_48_frames_become_flags :
    let s : State := { world with store.recs := [], ports.p1.outQ := List.replicate 47 (.notice .logAdvanced) }
    let t := after (.releaseStation q1 10002) s
    t.ports.p1.outQ.length = 48 ∧ t.ports.p1.flags = 0x0800 ∧ t.ports.p1.overrun = true ∧
      notices t .p2 = [.holdChanged 10002 false false] := by decide +kernel

theorem test_power_on_loads_and_starts :
    let t := after (.powerOn 1 2 3) { world with phase := .off, settings.image := some world.imageCopy }
    t.phase = .loading ∧ t.dir.stations.length = 2 ∧ t.settings.loadGood = true ∧ t.store.recs = [] ∧
      notices (after .loadingEnd t) .p3 = [.settingsLost .tally .loadBad, .started .powerOn ⟨1, 2, 3⟩ true false] := by
  decide +kernel

theorem test_restart_ends_what_is_in_flight :
    let t := after (.restart q1) { world with main.keyed := true }
    t.phase = .loading ∧ (t.record 4).map (·.state) = some .queued ∧ t.record 5 = none ∧ t.record 10 = none ∧
      t.ctl.cmds.map (·.kind) = [.unkey] ∧ t.dir.stations = [] := by decide +kernel

/-- The call watch held on channel 1. -/
def watching : State :=
  { world with
    store.recs := [], link.watchStation := some 10001, link.watchChannel := some 1, arb.holder := some .watch }

theorem test_call_on_the_watch_is_accepted :
    let t := after (.callBurst .main 10001 1000000 0 1) watching
    t.link.state = .awaitFirst ∧ t.arb.holder = some .session ∧
      t.main.onAir = some (.accept 10001 1000000, .keying 0) ∧ t.log.entries.map (·.kind) = [.callIn] := by decide +kernel

theorem test_call_of_an_unknown_station_is_rejected :
    let t := after (.callBurst .main 10003 1000000 0 1) watching
    t.link.state = .idle ∧ t.main.onAir = some (.reject 10003 1000000 .unknown, .keying 0) ∧
      t.log.entries.map (fun e => e.outcome) = [some .rejected] := by decide +kernel

/-- A session in RECEIVING, with its receive window armed. -/
def receiving : State :=
  { watching with
    arb.holder := some .session
    link := { watching.link with
      state := .receiving, watchChannel := none
      session := some { Session.opened 10001 1 0 with receiveWin := some 90012 } } }

theorem test_volley_stores_a_message_and_gets_its_tally :
    let text : List Byte := [0x00, 0x05, 0x04, 0x00, 0x00, 0x02, 0x48, 0x49]
    let t := after (.volleyBurst .main ⟨true, 1, 1, 0, true⟩ [⟨true, 0, 1, 8, text⟩]) receiving
    (t.record 1).map (fun m => (m.state, m.peerRef, m.text)) = some (.stored, some 5, [0x48, 0x49]) ∧
      t.main.onAir.map (·.1) = some (.tally ⟨[true], 1, false, false, false, false, false⟩) ∧
      notices t .p1 = [.newMessage 1] := by decide +kernel

/-- A session in SENDING, with one frame in flight and its tally window armed. -/
def sending : State :=
  { receiving with
    store.recs := [(1, record .traffic .outbound .sending 1)]
    link := { receiving.link with
      state := .sending
      session := some { Session.opened 10001 1 0 with
        outNext := 1, counter := 1, payLen := some 8, overSent := true, tallyWin := some 90003
        inFlight := [⟨⟨0, .textEnd, []⟩, 1, some 1, none⟩] } } }

theorem test_tally_delivers_and_grants_the_turn :
    let t := after (.tallyBurst .main ⟨1, 1, true, false, false, false, false⟩) sending
    (t.record 1).map (·.state) = some .delivered ∧ t.link.state = .receiving ∧
      t.link.session.map (·.receiveWin) = some (some 90012) := by decide +kernel

theorem test_clear_ends_a_session :
    let t := after (.clearBurst .main 3) sending
    t.link.session = none ∧ (t.record 1).map (fun m => (m.state, m.attempts)) = some (.queued, 1) ∧
      notices t .p1 = [.session 10001 .lost 0 0, .logAdvanced] ∧ t.link.state = .calling := by decide +kernel

theorem test_third_tune_fault_ends_service :
    let s : State := { world with
      arb.holder := some .call, main.faults := 2, main.tuned := none
      main.flight := some ⟨1, some .call, 9, some 90003⟩ }
    let t := after (.mainTuneAnswer true 9 1) s
    t.main.inService = false ∧ t.main.faults = 3 ∧ t.arb.holder = none ∧
      notices t .p1 = [.radioFault .main false .faults (some 1)] := by decide +kernel

theorem test_burst_sent_bit_by_bit :
    (Burst.clear .done).bytes = [0xB4, 0xE1, 6, 0] ++ crc16Bytes [6, 0] ∧
      (bitsOf [0xB4]) = [false, false, true, false, true, true, false, true] := by decide +kernel

/-! ### For each statement, states and operands that meet its hypotheses -/

/-- Between commands, the request passes the checks, and the blocks have nothing to do. -/
abbrev Ready (s : State) (k : ReqKind) (r : Req) : Prop := s.Settled ∧ s.Passes k r ∧ s.attend = none

/-- The state of a record. -/
def stateOf (s : State) (n : Nat) : Option MsgState := (s.record n).map (·.state)

/-- A record made at the console of port 1. -/
def mine (s : State) (n : Nat) : Bool := (s.record n).any fun m => m.orig == .port .p1

def at_ (d : OwnState) : State := { world with distress.state := d }

theorem test_witness_EmptyQueueLetsTimePass :
    run.pending = [] ∧ { run with phase := .off }.phase = .off ∧ State.reset.dueEvents = [.loadingEnd] ∧
      run.dueEvents ≠ [] ∧ { run with catch_.reportTaken := some 1 }.dueEvents = [] ∧
      (({ watching with time.now := 899 } : State).time.now + 1).toNat % 900 = 0 ∧ watching.arb.holder = some .watch := by decide +kernel

theorem test_witness_StepKeepsSettled :
    world.Settled ∧ (match step world with
      | .next _ => true
      | _ => false) = true := by decide +kernel

theorem test_witness_RequestAnsweredOnce :
    requestOf (.status q1) = some (.status, q1) ∧ run.phase ≠ .off ∧ Port.p2 ≠ q1.port := by decide +kernel

theorem test_witness_RequestChecksInOrder :
    requestOf (.shipSet q2 1000000 [] []) = some (.shipSet, q2) ∧ State.reset.Settled ∧ State.reset.phase = .loading ∧
      run.Settled ∧ run.phase = .running ∧ requestOf (.unknownRequest q2 62) = some (.other 62, q2) ∧
      ReqKind.shipSet.grant.all ((humble run).holds .p2) = false ∧ ReqKind.shipSet.grant.all (run.holds .p2) = true ∧
      64 ≤ ({ run with ports.p2.outQ := List.replicate 64 (.notice .storeLow) }.ports.get .p2).outQ.length ∧
      ReqKind.shipSet.image = true ∧ (saving run).settings.saveState ≠ .idle := by decide +kernel

theorem test_witness_EveryCommandCompletes :
    { run with phase := .off }.phase = .off ∧ Instr.granted ≠ .powerLoss := by decide +kernel

theorem test_witness_ExchangeFrame :
    { run with msgs := [.dueTest] }.msgs.all Msg.mild = true := by decide +kernel

theorem test_witness_CreateAddsDraft :
    Ready world .create q1 ∧ world.knows 10003 = false ∧ world.knows 10002 = true ∧ Prec.ofCode 5 = none ∧
      Prec.ofCode 3 = some .report ∧ Prec.ofCode 0 = some .distress ∧ Prec.ofCode 4 = some .routine ∧
      9 ≤ world.freeRecords ∧ Ready crowded .create q1 ∧ crowded.freeRecords = 8 ∧ crowded.victim = none ∧
      Ready (at_ .alerting) .create q1 := by decide +kernel

theorem test_witness_AppendAddsText :
    Ready world .append q1 ∧ [1, 2, 3, 12].all (mine world) = true ∧ stateOf world 3 = some .queued ∧
      [1, 2, 12].all (fun n => stateOf world n == some .draft) = true ∧ long.length = 251 ∧
      (world.record 12).map (·.textLen) = some 3072 ∧ (world.record 2).map (·.textLen) = some 3 ∧
      4 + 64 ≤ world.freePages := by decide +kernel

theorem test_witness_SubmitAndItsChecks_submitted :
    Ready world .submit q1 ∧ [1, 2, 3].all (mine world) = true ∧ world.holds .p1 .submitTraffic = true ∧
      stateOf world 2 = some .draft ∧ (world.record 2).map (·.textLen) = some 3 ∧ stateOf world 3 = some .queued ∧
      (world.record 1).map (·.textLen) = some 0 ∧
      (let s : State := { world with ports.p1.level := 3 }
      Ready s .submit q1 ∧ s.holds .p1 .submitTraffic = false) := by decide +kernel

theorem test_witness_WithdrawAndDeleteFree_withdrawn :
    Ready world .withdraw q1 ∧ [1, 3, 4, 5, 6, 7].all (mine world) = true ∧
      [1, 3, 7, 4, 5, 6].map (stateOf world) =
        [some .draft, some .queued, some .failed, some .sending, some .sending, some .delivered] ∧
      [4, 5].map (fun n => (world.record n).map (·.withdrawPending)) = [some false, some true] := by decide +kernel

theorem test_witness_SubmitAndItsChecks_refused :
    Ready world .submit q2 ∧ Ready world .delete q2 ∧ world.record 13 = none ∧ mine world 3 = true ∧
      q2.port ≠ .p1 ∧ requestOf (.submit q2 3) = some (.submit, q2) ∧ requestOf (.delete q2 8) = some (.delete, q2) ∧
      Ready (humble world) .delete q2 ∧ (humble world).holds .p2 Cls.report.readGrant = false := by decide +kernel

theorem test_witness_WithdrawAndDeleteFree_deleted :
    Ready world .delete q1 ∧ [9, 8, 7, 6, 3].map (stateOf world) =
        [some .stored, some .confirmed, some .failed, some .delivered, some .queued] ∧
      [Cls.traffic, .bulletin, .report].all (fun c => world.holds .p1 c.readGrant) = true ∧
      (world.store.free ++ [1000]).length = 1025 := by decide +kernel

theorem test_witness_MessagesKeptReadAndListed_kept :
    Ready world .keepSet q1 ∧ Ready world .keepClear q1 ∧ stateOf world 9 = some .stored ∧
      stateOf world 10 = some .receiving ∧ world.holds .p1 Cls.traffic.readGrant = true := by decide +kernel

theorem test_witness_MessagesKeptReadAndListed_read :
    Ready world .read q1 ∧ world.holds .p1 Cls.traffic.readGrant = true ∧ world.holds .p1 Cls.bulletin.readGrant = true ∧
      stateOf world 10 = some .receiving ∧ [9, 11, 12].map (fun n => (world.record n).map (·.textLen)) =
        [some 3, some 0, some 3072] ∧ 2 < 3 ∧ 3 ≤ 2 + 1 ∧ 0 + 200 < 3072 := by decide +kernel

theorem test_witness_MessagesKeptReadAndListed_listed :
    Ready world .list q1 ∧ Cls.ofCode 3 = none ∧ Cls.ofCode 2 = some .report ∧ world.holds .p1 Cls.report.readGrant = true ∧
      MsgState.ofCode 9 = none ∧ MsgState.ofCode 7 ≠ none ∧ MsgState.ofCode 8 = none ∧ Ready (humble world) .list q2 ∧
      (humble world).holds .p2 Cls.report.readGrant = false := by decide +kernel

theorem test_witness_MessagesKeptReadAndListed_log :
    let s := world.logWrite .session 10001 1
    Ready { s with raised := [] } .readLog q1 ∧ (0#16 - s.log.oldest).toNat < s.log.entries.length ∧
      (1#16 - s.log.oldest).toNat = s.log.entries.length ∧ s.log.entries.length < (2#16 - s.log.oldest).toNat := by decide +kernel

theorem test_witness_ReclaimTakesLowestTierOldestFirst :
    world.victim = some 6 := by decide +kernel

theorem test_witness_StationsWrittenAndCleared_written :
    Ready world .stationSet q1 ∧ (world.dir.stations.find 16).isNone = true ∧
      (world.dir.stations.find? fun e => e.2.cfg.number == 99999).isNone = true ∧ world.engaged 10001 = false ∧
      repeats [1, 2] = false ∧ [1, 2].all (fun n => (world.channel n).any fun c => c.cfg.use != .distress) = true ∧
      (let s : State := { watching with link.state := .sending, link.session := some (Session.opened 10001 1 0) }
      Ready s .stationSet q1 ∧ s.engaged 10001 = true) := by decide +kernel

theorem test_witness_StationsWrittenAndCleared_cleared :
    Ready world .stationClear q1 ∧ (world.dir.stations.find 1).map (·.cfg.number) = some 10001 ∧
      world.engaged 10001 = false ∧ world.dir.stations.find 16 = none ∧
      (let s : State := { watching with link.state := .sending, link.session := some (Session.opened 10001 1 0) }
      Ready s .stationClear q1 ∧ s.engaged 10001 = true) := by decide +kernel

theorem test_witness_ConsoleHoldsSetAndCleared :
    Ready world .holdStation q1 ∧ Ready world .releaseStation q1 ∧
      (world.stationOf 10001).map (·.consoleHold) = some false ∧ (world.stationOf 10002).map (·.consoleHold) = some true ∧
      world.stationOf 10003 = none := by decide +kernel

theorem test_witness_ChannelsWrittenAndCleared_written :
    Ready world .channelSet q1 ∧ world.channelInUse 48 = false ∧ freqInRange 16000 = true ∧ freqInRange 300000 = true ∧
      freqInRange 15999 = false ∧ world.listed 48 = false ∧ world.listed 1 = true ∧ Use.ofCode 2 = some .distress ∧
      Use.ofCode 3 = none ∧ Ready (at_ .alerting) .channelSet q1 ∧ (at_ .alerting).distress.state ≠ .quiet ∧
      (let s : State := { world with dir.channels := (List.range 6).map fun n => (n + 3, channelOf .distress) }
      Ready s .channelSet q1 ∧ (s.channel 48).isNone = true ∧
        6 ≤ (s.dir.channels.filter fun e => e.1 != 48 && e.2.cfg.use == .distress).length) := by decide +kernel

theorem test_witness_ChannelsWrittenAndCleared_cleared :
    Ready world .channelClear q1 ∧ Ready world .channelDisable q1 ∧ Ready world .channelEnable q1 ∧
      (world.channel 3).isSome = true ∧ world.channelInUse 3 = false ∧ world.listed 3 = false ∧
      world.scheduled 3 = false ∧ world.listed 1 = true ∧ world.scheduled 2 = true ∧ world.channel 48 = none ∧
      world.listed 48 = false := by decide +kernel

theorem test_witness_AreasSetAndCleared :
    Ready world .areaSet q1 ∧ Ready world .areaClear q1 ∧ latInRange 540000 = true ∧ latInRange 540001 = false ∧
      (world.time.areas.find 1).isSome = true ∧ world.time.areas.find 32 = none ∧
      (600 : Nat) < (90000#32 - 89399#32).toNat ∧ ¬ 600 < (90000#32 - 89400#32).toNat := by decide +kernel

theorem test_witness_ReadsChangeNothing_tables :
    ([ReqKind.stationGet, .channelGet, .areaGet, .scheduleGet, .speciesGet, .factorGet, .acceptGet].all fun k =>
      decide (Ready world k q1)) = true ∧ (world.dir.stations.find 1).isSome = true ∧
      world.catch_.factors.length = 1 := by decide +kernel

theorem test_witness_ReadsChangeNothing_units :
    ([ReqKind.fixStatus, .tally, .distressList, .radioStatus, .bulletinRegister].all fun k =>
      decide (Ready world k q1)) = true ∧ world.catch_.rows.length = 1 := by decide +kernel

theorem test_witness_SetTimeLoadsClock :
    Ready world .setTime q1 ∧ world.time.fix.isNone = true ∧ world.arb.holder ≠ some .watch ∧
      { world with time.source := .unset }.time.source = .unset ∧
      (world.bcast.schedule.all fun e => !calendarDue .console 90000#32 e.2.cfg.start e.2.lastTaken) = true ∧
      calendarDue .console 90000#32 world.catch_.reportTime (some 0) = false := by decide +kernel

theorem test_witness_FixTakenAndAges :
    Ready world .position q1 ∧ latInRange 540000 = true ∧ lonInRange (-1080000) = true ∧ lonInRange 1080000 = false ∧
      world.time.fix = none ∧ (let s : State := { world with time.fix := some fixNow }
      Ready s .position q1 ∧ (s.time.now - fixNow.time).toNat ≤ 600 ∧ fixNow.ageArmed = true) := by decide +kernel

theorem test_witness_PointsLieInAreas :
    (world.time.areas.all fun e => e.2.west != e.2.east) = true := by decide +kernel

theorem test_witness_CallNowAndCallWatch :
    Ready world .callNow q1 ∧ world.knows 10001 = true ∧ world.knows 10003 = false ∧ Ready world .watchStation q1 ∧
      (world.stationOf 10001).map (·.cfg.traffic) = some true ∧ (world.stationOf 10002).map (·.cfg.traffic) = some false ∧
      world.stationOf 10003 = none ∧ watching.Settled ∧ watching.arb.holder = some .watch ∧ watching.phase ≠ .off ∧
      run.arb.holder ≠ some .watch := by decide +kernel

theorem test_witness_DirectivesAreDecidedByCells_table :
    Ready world .acceptSet q1 ∧ Acceptance.ofCode 2 = some .ignore ∧ Acceptance.ofCode 1 = some .refuse ∧
      (world.handler.individual.length, world.handler.collective.length) = (16, 16) := by decide +kernel

theorem test_witness_ScheduleAndAreaWatchSet :
    Ready world .scheduleSet q1 ∧ Ready world .scheduleClear q1 ∧
      (world.dir.stations.find 1).any (·.cfg.broadcast) = true ∧
      (world.dir.channels.find 2).any (fun c => c.cfg.use == .broadcast) = true ∧ world.window 24 = none ∧
      world.bcast.schedule.find 24 = none ∧ (world.bcast.schedule.find 1).isSome = true ∧
      (let s : State := { world with
        bcast.windows := [⟨1, 10001, 2, true, 0, 0, .waiting, 0, Reception.cleared⟩] }
      Ready s .scheduleSet q1 ∧ Ready s .scheduleClear q1 ∧ s.window 1 ≠ none) := by decide +kernel

theorem test_witness_ScheduleAndAreaWatchSet_areas :
    Ready world .areaWatch q1 ∧ 32 ∈ areasOfBits 0x80000000#32 := by decide +kernel

theorem test_witness_SpeciesFactorsAndQuota :
    ([ReqKind.speciesSet, .speciesClear, .factorSet, .factorClear].all fun k => decide (Ready world k q1)) = true ∧
      codeOf [0x63, 0x6F, 0x64] = some cod ∧ codeOf [0x41, 0x42] = none ∧
      (world.speciesOf had).any (fun e => e.1 != 32) = true ∧ world.catch_.names cod = true ∧
      world.catch_.names had = false ∧ world.catch_.species.find 32 = none ∧ Form.ofCode 7 = some .roe ∧
      Form.ofCode 8 = none ∧ world.speciesOf [0x41, 0x41, 0x41] = none ∧ world.factorOf cod .gut ≠ none ∧
      world.factorOf cod .roe = none ∧
      (let s : State := { world with catch_.factors := List.replicate 96 ⟨had, .whl, 1000⟩ }
      Ready s .factorSet q1 ∧ s.factorOf cod .roe = none ∧ 96 ≤ s.catch_.factors.length) := by decide +kernel

theorem test_witness_PostCatchMovesRow :
    Ready world .postCatch q1 ∧ Form.ofCode 0 ≠ none ∧ world.speciesOf [0x41, 0x41, 0x41] = none ∧
      (world.speciesOf cod).isSome = true ∧ (world.speciesOf had).isSome = true ∧
      (world.catch_.rows.find? fun q => q.code == cod && q.area == 0).isSome = true ∧
      (world.catch_.rows.find? fun q => q.code == had && q.area == 0).isNone = true ∧
      (let s : State := { world with catch_.rows := (List.range 64).map fun n => ⟨cod, n + 1, 0, 0, false⟩ }
      Ready s .postCatch q1 ∧ (s.catch_.rows.find? fun q => q.code == had && q.area == 0).isNone = true ∧
        64 ≤ s.catch_.rows.length) := by decide +kernel

theorem test_witness_ReportTimeAndTripStart :
    Ready world .reportTimeSet q1 ∧ Ready world .tripStart q1 ∧
      (world.store.recs.any fun e => e.2.cls == .report && (e.2.state == .queued || e.2.state == .sending ||
        e.2.state == .delivered)) = false ∧ world.catch_.deferral = none ∧
      (let s : State := { world with catch_.deferral := some 0 }
      Ready s .tripStart q1 ∧ s.catch_.deferral ≠ none) := by decide +kernel

theorem test_witness_ReportTriggersTakeTheirCourse :
    run.authority = none ∧ world.authority = some 10001 ∧ world.pendingReports = [] ∧
      { world with store.recs := [(8, record .report .outbound .delivered 3)] }.pendingReports ≠ [] ∧
      (world.allocText .reserve (record .report .outbound .queued 65)).1 = some 13 ∧
      (let s : State := { world with store.free := [], store.recs := [] }
      (s.allocText .reserve (record .report .outbound .queued 65)).1 = none) ∧ Ready world .reportNow q1 := by decide +kernel

theorem test_witness_OwnAlertStartedCancelledClosed :
    ([OwnState.quiet, .pending, .alerting, .acknowledged, .cancelling].all fun d =>
      decide (Ready (at_ d) .distress q1 ∧ Ready (at_ d) .distressCancel q1 ∧ Ready (at_ d) .distressClose q1)) = true ∧
      Nature.ofCode 8 = some .undesignated ∧ Nature.ofCode 9 = some .cancel ∧ Nature.ofCode 10 = none := by decide +kernel

theorem test_witness_DistressLineHeldThreeSeconds :
    ([OwnState.quiet, .pending, .alerting, .acknowledged, .cancelling].all fun d =>
      decide ({ at_ d with distress.holdTimer := some 90003 }.Settled)) = true ∧ world.phase ≠ .off ∧
      world.distress.holdTimer = none := by decide +kernel

theorem test_witness_AlertCycleRuns :
    ([OwnState.quiet, .pending, .alerting, .acknowledged, .cancelling].all fun d =>
      decide ({ at_ d with
        distress.granted := true, distress.slot := some 90006, distress.nextCycle := some 90210 }.Settled)) = true ∧
      world.phase ≠ .off ∧ world.distress.granted = false ∧ world.distress.slot = none ∧
      world.distress.nextCycle = none ∧ world.rotation = [3] := by decide +kernel

theorem test_witness_AlertsHeardAndAcknowledged_heard :
    world.Settled ∧ world.phase = .running ∧ world.pathHeld .main = false ∧ world.pathHeld .watch = true ∧
      { world with distress.slot := some 90006 }.distress.slot ≠ none ∧ world.distress.list.length < 16 ∧
      (let s : State := { world with watch.dwell := .dwelling, watch.pos := 3, distress.list := [alertHeard] }
      s.Settled ∧ s.pathHeld .watch = false ∧ s.distress.list.any (fun e => e.ship == 2000000 && e.state != .cancelled)) ∧
      2000000 ≠ world.settings.identity.number ∧ Nature.ofCode 9 = some .cancel := by decide +kernel

theorem test_witness_AlertsHeardAndAcknowledged_acked :
    Ready world .alarmAck q1 ∧ world.distress.alarm = false ∧
      (let s : State := { world with
        distress.alarm := true, distress.highest := 2, distress.list := [alertHeard, { alertHeard with serial := 2 }] }
      Ready s .alarmAck q1 ∧ s.distress.alarm = true ∧
        ([1, 2].map fun n => s.distress.list.countP fun e => e.state = .new ∧ n < e.serial) = [1, 0]) := by decide +kernel

theorem test_witness_MainTuneEnds :
    world.Settled ∧ world.phase ≠ .off ∧ world.main.flight = none ∧ Ready world .radioRestore q1 ∧
      ([0, 1, 2, 3].all fun n => decide ({ world with
        main.faults := n, main.flight := some ⟨1, some .call, 9, some 90003⟩ }.Settled)) = true ∧
      { world with main.flight := some ⟨1, none, 9, none⟩ }.Settled := by decide +kernel

theorem test_witness_WatchScanSteps :
    world.Settled ∧ world.phase ≠ .off ∧ world.watch.flight = none ∧ world.watch.timer = none ∧
      ([0, 1, 2, 3].all fun n => decide ({ world with
        watch.faults := n, watch.flight := some ⟨3, none, 9, some 90003⟩ }.Settled)) = true ∧
      { world with watch.flight := some ⟨3, none, 9, none⟩ }.Settled ∧
      ([DwellState.dwelling, .idleDwell].all fun d =>
        decide ({ world with watch.dwell := d, watch.timer := some 90002 }.Settled)) = true ∧
      run.rotation = [] ∧ ((world.rotation.find? fun m => world.watch.pos < m).or world.rotation.head?) = some 3 ∧
      world.watch.tuned ≠ some 3 := by decide +kernel

theorem test_witness_CommandsGoOutAndBurstsEnd :
    world.Settled ∧ world.phase ≠ .off ∧ world.ctl.cmds = [] ∧
      ([ControlKind.tune, .key, .unkey].all fun k => [Radio.main, .watch].all fun r =>
        decide ({ world with ctl.cmds := [⟨r, 9, k, 0, 0⟩] }.Settled)) = true ∧
      ([AirPhase.keying 0, .keyUp, .bits].all fun p => [[], [Burst.clear .done]].all fun q => decide ({ world with
        main.keyed := true, main.onAir := some (.clear .done, p), main.burstQ := q }.Settled &&
        decide ({ world with main.keyed := true, main.onAir := some (.clear .done, p), main.burstQ := q
                             main.flight := some ⟨1, none, 4, none⟩ }.Settled))) = true ∧
      world.main.flight = none := by decide +kernel

theorem test_witness_GrantsLevelAndShipSet :
    ([ReqKind.grantSet, .distressLevelSet, .shipSet].all fun k => decide (Ready world k q1)) = true ∧
      Port.ofNumber 0 = none ∧ Port.ofNumber 4 = none ∧ Port.ofNumber 3 = some .p3 ∧ Ready (at_ .pending) .shipSet q1 ∧
      (at_ .pending).distress.state ≠ .quiet ∧ world.distress.state = .quiet := by decide +kernel

theorem test_witness_PortsRoutePollStatus_route :
    world.Settled ∧ world.phase = .running ∧ q1.fits = true ∧ (world.ports.get .p1).outQ.length < 64 ∧
      world.settings.saveState = .idle ∧ (saving world).Settled ∧ (saving world).settings.saveState ≠ .idle ∧
      8 ≤ (Notice.newMessage 1).kind ∧ 8 ≤ Notice.storeLow.kind ∧
      (let s : State := { world with ports.p1.outQ := List.replicate 47 (.notice .storeLow) }
      s.Settled ∧ (s.ports.get .p1).outQ.length + 1 = 48) := by decide +kernel

theorem test_witness_PortsRoutePollStatus_poll :
    world.Settled ∧ world.phase = .running ∧ q1.fits = true ∧ (world.ports.get .p1).outQ.length < 64 ∧
      (world.ports.get .p1).flags = 0 ∧ (world.ports.get .p1).overrun = false ∧
      { world with ports.p1.flags := 0x8000 }.Settled ∧ { world with ports.p1.overrun := true }.Settled ∧
      8 ≤ Notice.storeLow.kind ∧ ({ world with ports.p1.choices := 0 }.ports.get .p1).choices.getLsbD 15 = false := by decide +kernel

theorem test_witness_PortsRoutePollStatus_status :
    world.Settled ∧ world.phase = .running ∧ q1.fits = true ∧ (world.ports.get .p1).outQ.length < 64 := by decide +kernel

theorem test_witness_ReceiversHuntAndRead :
    world.Settled ∧ world.phase ≠ .off ∧ (world.ports.get .p1).hunting = true ∧ (world.ports.get .p1).freshHunt = true ∧
      (world.ports.get .p1).outQ = [] ∧
      (let s : State := { world with ports.p1.hunting := false, ports.p1.outQ := [.notice .storeLow] }
      s.Settled ∧ (s.ports.get .p1).hunting = false ∧ (s.ports.get .p1).outQ = [.notice .storeLow]) := by decide +kernel

theorem test_witness_SavesAreWrittenInTurn :
    Ready world .saveSettings q1 ∧ world.settings.saveState = .idle ∧ world.settings.writing = none ∧
      Ready (saving world) .saveSettings q1 ∧ (saving world).settings.saveState ≠ .idle ∧
      Ready (savingTally world) .saveSettings q1 ∧ (savingTally world).settings.saveState = .idle ∧
      (savingTally world).settings.writing.isSome = true ∧ world.phase ≠ .off := by decide +kernel

theorem test_witness_PowerLoadingAndRestart :
    Ready world .restart q1 ∧ world.distress.state = .quiet ∧ world.settings.saveState = .idle ∧
      Ready (at_ .cancelling) .restart q1 ∧ (at_ .cancelling).distress.state ≠ .quiet ∧ Ready (saving world) .restart q1 ∧
      (saving world).settings.saveState ≠ .idle ∧ State.reset.Settled ∧ State.reset.phase = .loading ∧
      world.phase = .running := by decide +kernel

theorem test_witness_CallsAndAnswersHeard :
    watching.Settled ∧ watching.phase = .running ∧ watching.mainHeld = false ∧ watching.link.state = .idle ∧
      watching.arb.holder = some .watch ∧ watching.link.watchChannel = some 1 ∧ watching.main.tuned = some 1 ∧
      watching.knows 10001 = true ∧ watching.knows 10003 = false ∧
      (watching.arb.waiting.any fun c => decide (c.cls < 3)) = false ∧ sending.Settled ∧ sending.mainHeld = false ∧
      sending.link.state = .sending ∧ { watching with handler.silence := some ⟨10002, 0⟩ }.Settled ∧
      { watching with arb.waiting := [.must 1] }.Settled ∧
      (let s : State := { watching with
        arb.holder := some .call, link.state := .calling
        link.round := some ⟨10001, 0, .calling, 1, none, 4, some 90002, true, none⟩ }
      s.Settled ∧ s.mainHeld = false ∧ s.link.state = .calling) ∧
      (let s : State := { watching with
        arb.holder := some .session, link.state := .awaitFirst, link.await := some ⟨10001, 1, 0, some 90010, false⟩ }
      s.Settled ∧ s.mainHeld = false ∧ s.arb.holder = some .session) := by decide +kernel

theorem test_witness_VolleysTalliesAndClearsHeard :
    receiving.Settled ∧ receiving.phase = .running ∧ receiving.mainHeld = false ∧
      receiving.link.session.any (fun e => e.receiveWin.isSome) = true ∧ sending.Settled ∧ sending.mainHeld = false ∧
      sending.link.session.any (fun e => e.tallyWin.isSome && e.outNext == 1) = true ∧ watching.Settled ∧
      watching.link.session = none ∧ (hdr 1 0 false).good = false ∧ (hdr 4 2).good = true ∧
      (let s : State := { receiving with
        link.state := .clearing, link.session := some { Session.opened 10001 1 0 with clearWait := some 90003 } }
      s.Settled ∧ s.mainHeld = false) := by decide +kernel

theorem test_witness_PathsSearchAndCollectives :
    world.Settled ∧ world.phase ≠ .off ∧ world.mainHeld = false ∧ world.watchHeld = true ∧
      (let s : State := { world with main.keyed := true, watch.dwell := .dwelling }
      s.Settled ∧ s.mainHeld = true ∧ s.watchHeld = false) := by decide +kernel

theorem test_witness_LinkAndBroadcastTimersExpire :
    world.Settled ∧ world.phase = .running ∧ (world.dir.stations.find 1).any (fun st => !st.nextCallArmed) = true ∧
      world.dir.stations.find 16 = none ∧ world.link.round.isNone = true ∧ world.link.await.isNone = true ∧
      world.link.session.isNone = true ∧ world.handler.silence = none ∧ (world.bcast.schedule.find 1).isSome = true ∧
      world.bcast.schedule.find 24 = none ∧ world.window 24 = none ∧ sending.Settled ∧ receiving.Settled ∧
      (let s : State := { world with
        dir.stations := [(1, { station1 with nextCall := some 90001, nextCallArmed := true })]
        handler.silence := some ⟨10001, 90060⟩, link.await := some ⟨10001, 1, 0, some 90010, false⟩
        link.round := some ⟨10001, 0, .calling, 1, none, 4, some 90002, true, none⟩
        bcast.windows := [⟨1, 10001, 2, true, 0, 90600, .waiting, 0, Reception.cleared⟩,
          ⟨2, 10001, 2, true, 0, 90600, .receiving, 0, Reception.cleared⟩] }
      s.Settled) := by decide +kernel

/-! ### Witnesses of the statements over several blocks -/

/-- A step of the state answers a next state. -/
def runs (s : State) : Bool :=
  match step s with
  | .next _ => true
  | _ => false

def ice7 : BulletinId := ⟨0x4F, 0x53, .ice, 7⟩
def gale1 : BulletinId := { ice7 with kind := .gale }
def bulletin (id : BulletinId) (areas : List Nat) (frames errored : Nat) : Bulletin := ⟨id, areas, [], frames, errored, 0⟩

/-- Every block holds something, and the invariants hold. -/
def sound : State :=
  { run with
    dir := world.dir
    store := {
      free := List.range 1023, recs := [(1, { record .traffic .outbound .queued 3 with pages := [1023] })], next := 2
      lowArmed := true }
    log := (run.logWrite .session 10001 1).log
    bcast.register := [⟨ice7, 0, 0, some 9⟩, ⟨gale1, 0, 0, none⟩]
    catch_.rows := [⟨cod, 0, 10, 20, false⟩, ⟨cod, 1, 0, 99999999, false⟩]
    distress.list := [alertHeard, { alertHeard with serial := 2, state := .cancelled }]
    arb := { holder := some .session, waiting := [.must 1, .optional 2], yieldAsked := true } }

theorem test_witness_StepKeepsStoreSound : sound.StoreSound ∧ runs sound = true := by decide +kernel

theorem test_witness_StepKeepsLogAndDirectorySound : sound.LogSound ∧ sound.DirectorySound ∧ runs sound = true := by
  decide +kernel

theorem test_witness_StepKeepsListsSound :
    sound.RegisterSound ∧ sound.DistressListSound ∧ sound.TallySound ∧ runs sound = true := by decide +kernel

theorem test_witness_StepKeepsArbiterSound : sound.ArbiterSound ∧ runs sound = true := by decide +kernel

/-- So many records, the last of which reclaim may free. -/
def fillUp (n : Nat) : State :=
  { run with
    dir := world.dir
    store.recs := ((List.range n).map fun i => (i + 1, record .traffic .outbound .draft 0)) ++
      [(n + 1, record .traffic .outbound .failed 0)] }

theorem test_witness_CreateAddsDraft_reclaims :
    [119, 121].all (fun n => decide (Ready (fillUp n) .create q1 ∧ (fillUp n).victim = some (n + 1))) = true ∧
      [119, 121].map (fun n => (((fillUp n).taken q1).reclaimFor fun t => decide (9 ≤ t.freeRecords)).freeRecords) =
        [9, 7] := by decide +kernel

/-- A draft of so many bytes, and so many free pages. -/
def drafting (bytes pages : Nat) : State :=
  { run with store.recs := [(1, record .traffic .outbound .draft bytes)], store.free := List.range pages }

theorem test_witness_AppendAddsText_ends :
    Ready (drafting 3000 1000) .append q1 ∧ 3072 < 3000 + 200 ∧ 3000 + 72 ≤ 3072 ∧
      Ready (drafting 3 64) .append q1 ∧ (drafting 3 64).victim = none ∧ (1 + (64 - 64)) * 64 - 3 < 100 ∧
      (State.allocPages (drafting 64 64) .ordinary 1 1).1 = false ∧
      (State.allocPages (drafting 64 65) .ordinary 1 1).1 = true ∧
      answers (after (.append q1 1 (List.replicate 100 0x41)) (drafting 3 64)) .p1 =
        [⟨.storeFull, .appended 61 0 []⟩] ∧
      answers (after (.append q1 1 (List.replicate 100 0x41)) (drafting 3000 1000)) .p1 =
        [⟨.partly, .appended 72 0 [.tooLong]⟩] := by decide +kernel

/-- A record of each tier of R8, the oldest of a tier behind a younger one. -/
def tiers : State :=
  let seen (m : MsgRec) : MsgRec := { m with readMask := ⟨true, true, true⟩ }
  { run with
    bcast.register := [⟨ice7, 0, 0, some 5⟩]
    store.recs := [(1, seen (record .traffic .inbound .stored 3)),
      (2, seen { record .traffic .inbound .stored 3 with created := 99 }),
      (3, record .report .outbound .confirmed 3), (4, seen (record .bulletin .inbound .stored 3)),
      (5, seen (record .bulletin .inbound .stored 3)), (6, { seen (record .traffic .inbound .stored 3) with keep := true })] }

theorem test_witness_ReclaimTakesLowestTierOldestFirst_tiers :
    tiers.store.recs.wf = true ∧ tiers.victim = some 2 ∧
      (tiers.store.recs.map fun e => tiers.reclaimTier e.1 e.2) = [some 1, some 1, some 2, some 3, some 4, none] ∧
      ((State.reclaimFor tiers fun t => decide (124 ≤ t.freeRecords)).store.recs.map (·.1)) = [3, 4, 5, 6] := by
  decide +kernel

theorem test_witness_ConsoleHoldsSetAndCleared_sending :
    sending.Settled ∧ sending.Passes .holdStation q1 ∧ (sending.stationOf 10001).map (·.consoleHold) = some false ∧
      sending.heldBack 10001 = [1] ∧
      (let t := after (.holdStation q1 10001) { sending with
        link.session := sending.link.session.map fun e => { e with outMsg := some (1, 5), inFlight := [] } }
      (t.record 1).map (·.state) = some .queued ∧ t.link.session.map (·.aborts) = some [(1, false)]) := by
  decide +kernel

theorem test_witness_ReadsChangeNothing_order :
    let listed (l : List Nat) : List DistressEntry := l.map fun n => { alertHeard with serial := n }
    ([1, 40000, 65535].all fun n => decide ((n + 65536 - 40000) % 65536 < 32768)) = true ∧
      (bySerial (listed [1, 40000, 65535])).map (·.serial) = [40000, 65535, 1] := by decide +kernel

theorem test_witness_SetTimeLoadsClock_due :
    let s : State := { world with
      time.fix := some { fixNow with time := 89000 }
      bcast.schedule := [(1, ⟨⟨1, 2, 60, 10, true, true⟩, some 0⟩)], catch_.reportTaken := none }
    Ready s .setTime q1 ∧ passed 90000 (({ fixNow with time := 89000 } : Fix).staleAt) = true ∧
      watching.Settled ∧ watching.Passes .setTime q1 ∧ watching.arb.holder = some .watch ∧
      calendarDue s.time.source s.time.now 60 (some 0) = true ∧ calendarDue s.time.source s.time.now 60 (some 1) = false ∧
      calendarDue .console 90000 s.catch_.reportTime none = true ∧ calendarDue .unset 90000 60 none = false := by
  decide +kernel

theorem test_witness_FixTakenAndAges_old :
    let old (armed : Bool) : State := { world with time.fix := some { fixNow with time := 89399, ageArmed := armed } }
    Ready (old true) .position q1 ∧ Ready (old false) .position q1 ∧ ¬ (90000#32 - 89399#32).toNat ≤ 600 ∧
      (90000#32 - 89400#32).toNat ≤ 600 ∧ State.reset.Settled ∧ State.reset.phase = .loading := by decide +kernel

theorem test_witness_ReportTriggersTakeTheirCourse_timers :
    let s : State := { world with
      catch_.reportTaken := some 0, catch_.reportTime := 60
      catch_.overdue := [(8, 90100), (13, 90100), (16, 90100)]
      store.recs := [(8, record .report .outbound .delivered 3), (16, record .report .outbound .queued 3)] }
    s.Settled ∧ s.phase = .running ∧ calendarDue s.time.source s.time.now 60 (some 0) = true ∧
      [8, 16, 13].map (stateOf s) = [some .delivered, some .queued, none] ∧ s.catch_.overdue.find 7 = none ∧
      calendarDue s.time.source s.time.now 60 (some 1) = false ∧ latestDay s.time.now 60 ≤ 1 ∧
      (0 ≤ ((1 : Int) + 1) * 86400 + 60 * 60 ∧ ((1 : Int) + 1) * 86400 + 60 * 60 < 2 ^ 32) ∧
      ¬ ((60000 : Int) + 1) * 86400 + 60 * 60 < 2 ^ 32 := by decide +kernel

theorem test_witness_AlertCycleRuns_steps :
    let s (d : OwnState) : State := { at_ d with
      distress.rotating := true, distress.awaitTune := true, distress.logEntry := some 0, distress.rotPos := 3 }
    world.rotation = [3] ∧ (world.rotation.find? fun n => decide ((at_ .alerting).distress.rotPos < n)) = some 3 ∧
      (s .alerting).rotation.all (fun n => decide (n ≤ 3)) = true ∧ run.rotation = [] ∧
      (s .cancelling).distress.cancelAfter = false ∧
      ((after .alertListenSlotExpiry { s .alerting with
        distress.slot := some 90006, distress.awaitTune := false, distress.sent := 1 }).distress.nextCycle).isSome = true := by
  decide +kernel

/-- A full distress list: serial 5 is SEEN, every other entry NEW. -/
def fullList : List DistressEntry :=
  (List.range 16).map fun i =>
    { alertHeard with ship := 2000000 + i, serial := i + 1, state := if i = 4 then .seen else .new }

theorem test_witness_AlertsHeardAndAcknowledged_full :
    let s : State := { world with watch.dwell := .dwelling, watch.pos := 3, distress.list := fullList, distress.highest := 16 }
    s.Settled ∧ s.pathHeld .watch = false ∧ 16 ≤ s.distress.list.length ∧
      (s.distress.list.any fun e => e.ship == 3000000 && e.state != .cancelled) = false ∧
      (fullList.all fun d => d.serial == 5 || (removedBefore 90000 (fullList.getD 4 alertHeard) d &&
        !removedBefore 90000 d (fullList.getD 4 alertHeard))) = true ∧
      (after (.alertBurst .watch ⟨3000000, 0, 0, 0, 0, false, 1, 1⟩) s).distress.list.map (·.serial) =
        [1, 2, 3, 4, 6, 7, 8, 9, 10, 11, 12, 13, 14, 15, 16, 17] := by decide +kernel

theorem test_witness_MainTuneEnds_bursts_waiting :
    let s : State := { world with
      arb.holder := some .distress, main.burstQ := [.clear .done], main.flight := some ⟨1, some .call, 9, some 90003⟩ }
    s.Settled ∧ s.main.burstQ ≠ [] ∧ s.arb.holder ≠ some .call := by decide +kernel

/-- A session with station 10001 on channel 1, in a state of the engine. -/
def inSession (st : LinkState) (f : Session → Session) : State :=
  { watching with
    arb.holder := some .session
    link := { watching.link with
      state := st, watchChannel := none, session := some (f (Session.opened 10001 1 0)) } }

/-- A frame in flight with its sends, the record that it ends and the serial that it answers. -/
def flight (sends : Nat) (ends : Option Nat) (answers : Option Half := none) : Flight :=
  ⟨⟨0, .textEnd, []⟩, sends, ends, answers⟩

theorem test_witness_VolleysAreBuilt :
    let e := Session.opened 10001 1 0
    let s : State := { sending with store.recs := [(3, record .traffic .outbound .queued 3)] }
    let owing : State := { s with handler.last := some ⟨10001, .identity 0 [] [], 1, true⟩ }
    s.framesRemain e = true ∧ sending.framesRemain e = false ∧ (List.replicate 4 (flight 1 none)).length = 4 ∧
      (owing.freshAnswer e).isSome = true ∧ owing.freshAnswer { e with answerCopy := some 1 } = none ∧
      s.freshAnswer e = none ∧ s.nextRecord e = some (3, 0) ∧ s.nextRecord { e with outMsg := some (3, 2) } = some (3, 2) ∧
      s.nextRecord { e with heldTurn := true } = none ∧ s.nextRecord { e with turnYield := true } = none ∧
      (s.record 3).isSome = true ∧ s.link.session.isSome = true ∧
      (s.addNewFrame { e with outMsg := some (3, 2) } 8).2.inFlight.map (fun f => (f.frame.kind, f.ends)) =
        [(.textEnd, some 3)] ∧
      (s.addNewFrame e 8).2.inFlight.map (fun f => (f.frame.kind, f.frame.payload.length)) = [(.text, 8)] := by
  decide +kernel

/-- A withdrawal frees its record when the TEXT-ABORT that it owes has gone out, not when a hold owed it (R11, R86). -/
theorem test_text_abort_frees_the_withdrawn :
    let s (owed : Bool) : State := { inSession .sending fun e => { e with abortsSent := [(5, owed)] } with
      store.recs := [(5, { record .traffic .outbound .sending 3 with withdrawPending := true })] }
    (s true).volleySent.store.recs = [] ∧ (s false).volleySent.store.recs ≠ [] := by decide +kernel

/-- A hold takes back a record whose TEXT-END is in flight: it is QUEUED, and once the hold is cleared it waits for a later
session, while a record not yet built may be taken (R86, R95). -/
theorem test_hold_keeps_a_built_record_for_a_later_session :
    let s := State.setShoreHold { sending with
      store.recs := [(1, record .traffic .outbound .sending 1), (2, record .traffic .outbound .queued 1)] } 10001 true
    let t := s.setShoreHold 10001 false
    stateOf t 1 = some .queued ∧ t.link.session.map (fun e => (e.later, e.inFlight.map (·.ends))) = some ([1], [none]) ∧
      t.link.session.map (fun e => t.nextRecord { e with heldTurn := false }) = some (some (2, 0)) := by decide +kernel

theorem test_witness_VolleysAreTaken :
    let s := inSession .receiving id
    let good : RxFrame := frm 5 0 8
    let taking : Taking := ⟨[], false, false, false⟩
    let header : List Byte := [0, 5, 4, 0, 0, 3, 0x41, 0x42]
    s.link.session = some (Session.opened 10001 1 0) ∧ frameGood 8 good = true ∧ frameGood 8 (frm 6 0 8) = false ∧
      frameGood 8 (frm 0 8 8) = true ∧ frameGood 8 (frm 0 9 8) = false ∧ FrameKind.ofCode 5 = some .empty ∧
      ([1, 7, 8, 15].map fun d => (State.takeFrame 8 (s, taking) { good with seq := d }).2.marks) =
        [[false], [false], [true], [true]] ∧
      headerOf header = some (5, .routine, 3) ∧ headerOf (header.take 5) = none ∧ headerOf (header.set 5 0) = none ∧
      (s.allocText .ordinary (inboundRecord 0 10001 5 .routine 3)).1 = some 1 ∧
      (({ s with store.free := [] } : State).allocText .reserve (inboundRecord 0 10001 5 .urgency 3)).1 = none ∧
      (hdr 1 0).good = true ∧ (inSession .receiving fun e => { e with kept := some 1 }).link.session.isSome = true ∧
      (State.takeFrame 8 ({ s with store.recs := [(9, record .traffic .inbound .receiving 3)] },
        taking) ⟨true, 0, 2, 2, List.replicate 8 0⟩).2.marks = [true] := by decide +kernel

theorem test_witness_TalliesSettleFrames :
    let s (f : Session → Session) : State := inSession .sending f
    (sending.record 1).map (·.state) = some .sending ∧ stateOf world 6 = some .delivered ∧ world.record 13 = none ∧
      ((s fun e => { e with inFlight := [flight 6 none] }).link.session.map Session.overSentFrames) = some true ∧
      ((s fun e => { e with inFlight := [flight 5 none] }).link.session.map Session.overSentFrames) = some false ∧
      ({ s id with arb.yieldAsked := true }.yieldReason (Session.opened 10001 1 0)) = some .hold ∧
      ({ s id with handler.silence := some ⟨10002, 0⟩ }.yieldReason (Session.opened 10001 1 0)) = some .silence ∧
      ({ s id with handler.silence := some ⟨10001, 0⟩ }.yieldReason (Session.opened 10001 1 0)) = none ∧
      ((s fun e => { e with overSent := true }).afterExchange false).link.state = .clearing ∧
      ((s fun e => { e with missTallies := 2 }).tallyMissed).link.session = none ∧
      ((s fun e => { e with missTallies := 1 }).tallyMissed).link.session.isSome = true := by decide +kernel

theorem test_witness_SessionsEndAndYield :
    (sending.link.session.isSome = true ∧ (inSession .receiving fun e => { e with inMsg := some (10, 2) }).link.session.any
        (fun e => e.inMsg.isSome) = true) ∧
      ([4, 5].map fun n => (world.record n).map fun m => (m.withdrawPending, m.attempts)) =
        [some (false, 0), some (true, 0)] ∧
      stateOf (State.settleSending true { world with store.recs := [(4, { record .traffic .outbound .sending 3 with
        attempts := 4 })] } 4) 4 = some .failed ∧
      stateOf (State.settleSending true { world with store.recs := [(4, { record .traffic .outbound .sending 3 with
        attempts := 3 })] } 4) 4 = some .queued ∧
      (let s : State := { inSession .clearing (fun e => { e with clearWait := some 90003 }) with arb.yieldAsked := true }
      s.link.session.any (fun e => e.clearWait.isSome) = true ∧ s.onYieldAsked.main.onAir.map (·.1) = some (.clear .done)) ∧
      ({ inSession .receiving id with arb.yieldAsked := true }).onYieldAsked = { inSession .receiving id with
        arb.yieldAsked := true } ∧
      ((inSession .receiving fun e => { e with missVolleys := 2 }).volleyMissed false).link.session = none ∧
      ((inSession .receiving fun e => { e with missVolleys := 1 }).volleyMissed false).link.session.isSome = true ∧
      ([AfterTally.listen, .takeTurn, .clearDone].map fun a =>
        (inSession .receiving fun e => { e with after := a }).tallySent.link.state) = [.receiving, .sending, .clearing] := by
  decide +kernel

/-- A session in waiting, the REJECT of another call on the air or not. -/
def inWaiting (ending : Bool) : State :=
  { watching with
    arb.holder := some .session
    link := { watching.link with
      state := .awaitFirst, watchChannel := none, await := some ⟨10001, 1, 0, some 90010, ending⟩ } }

theorem test_witness_CallsAndAnswersHeard_more :
    (inWaiting true).Settled ∧ (inWaiting true).phase = .running ∧ (inWaiting true).mainHeld = false ∧
      (after (.callBurst .main 10001 1000000 0 1) (inWaiting true)).link.await.map (·.ending) = some true ∧
      (after (.callBurst .main 10001 1000000 0 1) (inWaiting false)).link.await.map (·.entry) = some 0 ∧
      (let s : State := { watching with
        arb.holder := some .call, link.state := .calling, settings.identity.number := 1000001
        link.round := some ⟨10001, 0, .calling, 1, none, 4, some 90002, true, some 1000000⟩ }
      s.Settled ∧ s.mainHeld = false ∧
        (after (.acceptBurst .main 10001 1000000) s).link.session.isSome = true ∧
        (after (.acceptBurst .main 10001 1000001) s).link.session = none) := by decide +kernel

theorem test_witness_VolleysTalliesAndClearsHeard_more :
    (after (.volleyBurst .main (hdr 1 0) [frm 5 0 8]) (inWaiting false)).link.session.isSome = true ∧
      (after (.volleyBurst .main (hdr 1 0) [frm 5 0 8]) (inWaiting true)).link.session = none ∧
      (inSession .receiving id).Settled ∧ (inSession .receiving id).mainHeld = false ∧
      ((inSession .receiving fun e => { e with missVolleys := 2 }).takeVolley (hdr 1 0 false) []).link.session = none ∧
      (let last : TxTally := ⟨[true], 1, false, false, false, false, false⟩
      ((inSession .receiving fun e => { e with kept := some 0, lastTally := some last }).takeVolley (hdr 1 0)
        [frm 5 0 8]).main.onAir.map (·.1) = some (.tally last)) := by decide +kernel

theorem test_witness_DirectivesAreDecidedByCells_ends :
    let answer (code addressing value : Nat) := answers (after (.acceptSet q1 code addressing value) world) .p1
    [answer 0 0 0, answer 1 0 0, answer 12 0 2, answer 13 0 0, answer 1 2 0, answer 1 0 3, answer 3 1 0, answer 12 1 1,
      answer 12 1 0] =
        [[plain .badArgument], [plain .ok], [plain .ok], [plain .badArgument], [plain .badArgument], [plain .badArgument],
          [plain .ok], [plain .ok], [⟨.partly, .changes [.cellKept 12]⟩]] := by decide +kernel

/-- An order of station 10001, heard on channel 1. -/
def order (code : Nat) (args : List Byte) (a : Addressing := .individual) : Order :=
  ⟨code, args, args.length + 1, a, 10001, 1⟩

theorem test_witness_DirectivesAreDecidedByCells :
    ([order 0 [], order 13 [], order 6 [0, 1] |> fun o => { o with used := 2 }, order 6 [0, 0], order 7 [0, 0, 0, 0, 2],
      order 10 [0, 0, 0], order 1 [] .collective].all fun o => world.verdict o == .refused) = true ∧
      ([order 1 [], order 3 [] .collective, order 12 [], order 5 [], order 11 [], order 9 [] .collective].all fun o =>
        world.verdict o == .accepted) = true ∧
      world.verdict (order 2 []) = .refused ∧ world.verdict (order 6 [0, 8]) = .accepted ∧
      { world with handler.individual := world.handler.individual.set 1 .ignore }.verdict (order 1 []) = .ignored ∧
      { world with handler.silence := some ⟨10002, 0⟩ }.verdict (order 9 []) = .refused ∧
      ([0, 1, 2].all fun k => world.addressMatches k 1000000 == (k != 1)) = true ∧
      world.addressMatches 1 32 = true ∧ world.addressMatches 1 33 = false ∧ world.handler.recent = [] := by
  decide +kernel

theorem test_witness_DirectivesTakeEffect :
    let silenced : State := { world with handler.silence := some ⟨10001, 90600⟩ }
    world.handler.last = none ∧ silenced.handler.silence.isSome = true ∧ stateOf world 8 = some .confirmed ∧
      (world.stationOf 10001).map (·.shoreHold) = some false ∧ world.stationOf 10003 = none ∧
      (world.obey (order 3 [] .collective)).raised = [.holdChanged 10001 true false, .holdChanged 10002 true true] ∧
      (silenced.obey (order 9 [])).raised = [.silence false none none .ended] ∧
      (world.obey (order 7 [0, 0, 0, 1, 1])).time.now = 90000 ∧ (world.obey (order 7 [0, 0, 0, 1, 0])).time.now = 1 ∧
      natOfBytes [0x0F, 0x42, 0x40] = world.settings.identity.number ∧
      ([OwnState.quiet, .pending, .alerting, .acknowledged, .cancelling].map fun d =>
        ((at_ d).obey (order 10 [0x0F, 0x42, 0x40])).distress.state) =
          [.quiet, .acknowledged, .acknowledged, .acknowledged, .cancelling] ∧
      (let t := State.setShoreHold { sending with dir.stations := [(1, { station1 with shoreHold := true })] } 10001 false
      t.link.session.map (·.heldTurn) = some true) := by decide +kernel

/-- The window of schedule entry 1, in a state. -/
def windowed (st : WinState) (rx : Reception := Reception.cleared) : State :=
  { world with
    arb.holder := some (.must 1), log := (world.logWrite .bulletin 10001 2).log
    bcast.windows := [⟨1, 10001, 2, true, 90000, 90600, st, 0, rx⟩] }

theorem test_witness_WindowsTakeTheirCourse :
    let cfg : ScheduleCfg := ⟨1, 2, 60, 10, true, true⟩
    (world.takeOccurrence 1 cfg 1).bcast.windows.map (·.state) = [.tuning] ∧
      (world.takeOccurrence 1 { cfg with enabled := false } 1).bcast.windows = [] ∧
      (world.takeOccurrence 1 cfg 0).raised.getLast? = some (.bulletinMissed 1 10001 3600 .missed) ∧
      (world.takeOccurrence 1 { cfg with channel := 1 } 1).bcast.windows = [] ∧
      (State.takeOccurrence { world with arb.holder := some .session } 1 cfg 1).bcast.windows.map (·.state) = [.waiting] ∧
      ([WinState.waiting, .tuning, .receiving].all fun st => ((windowed st).windowOf (.must 1)).isSome) = true := by
  decide +kernel

/-- One clock step grants an OPTIONAL window and then takes a MUST entry: the first window has its entry, and it ends
PRE-EMPTED (R45, R124, R126). -/
theorem test_clock_step_preempts_the_window_it_granted :
    let s : State := { world with
      bcast.schedule := [(1, ⟨⟨1, 2, 60, 10, false, true⟩, some 0⟩), (2, ⟨⟨1, 2, 60, 10, true, true⟩, some 0⟩)] }
    let t := after (.setTime q1 90000) s
    t.bcast.windows.map (fun w => (w.entry, w.state)) = [(2, .tuning)] ∧
      t.log.entries.map (fun e => (e.number, e.outcome)) = [(0, some .preEmpted), (1, none)] := by decide +kernel

/-- At a clock step with the call watch held, an OPTIONAL entry opens its window at once and a MUST entry pre-empts it (R121,
R126). -/
theorem test_clock_step_opens_a_window_on_the_call_watch :
    let s : State := { watching with
      catch_.reportTaken := some 0
      bcast.schedule := [(1, ⟨⟨1, 2, 60, 10, false, true⟩, some 0⟩), (2, ⟨⟨1, 2, 60, 10, true, true⟩, some 0⟩)] }
    let t := after (.setTime q1 90000) s
    t.bcast.windows.map (fun w => (w.entry, w.state)) = [(2, .tuning)] ∧
      t.log.entries.map (fun e => (e.number, e.outcome)) = [(0, some .preEmpted), (1, none)] ∧
      t.arb.waiting = [.watch] := by decide +kernel

/-- A former holder's tune to the chosen channel is in flight: the call watch asks for its own, which waits (R72, R184). -/
theorem test_call_watch_tunes_behind_a_former_holder :
    let s : State := { watching with
      link.watchChannel := none, main.tuned := none, main.flight := some ⟨1, some .call, 9, some 90003⟩ }
    s.chooseWatch.main.flight = s.main.flight ∧ s.chooseWatch.main.nextTune = some (1, .watch) ∧
      s.chooseWatch.link.watchChannel = some 1 := by decide +kernel

theorem test_witness_BulletinsAreAssembled :
    let s (rx : Reception) : State := windowed .receiving rx
    let cleared := Reception.cleared
    let frame (n : Half) (l : List Byte) : RxCollective := ⟨10001, n, false, l⟩
    let begins : List Byte := [0x4F, 0x53, 0x57, 7, 1, 32] ++ List.replicate 10 0
    (world.readFrame (frame 5 []) 1 = world ∧ (s cleared).readFrame ⟨10002, 5, false, []⟩ 1 = s cleared ∧
      (s { cleared with next := some 6 }).readFrame (frame 5 []) 1 = s { cleared with next := some 6 }) ∧
      (((s cleared).readFrame (frame 5 begins) 0).bcast.windows.map fun w =>
        (w.rx.next, w.rx.settled, w.rx.bulletin.map (·.areas))) = [(some 6, 1, some [32])] ∧
      ((State.readFrame (s { cleared with next := some 5, bulletin := some (bulletin ice7 [] 0 0) }) (frame 11 []) 1).bcast.windows.map
        fun w => (w.rx.next, w.rx.settled, w.rx.errored)) = [(some 6, 1, 1)] ∧
      ((State.readFrame (s { cleared with next := some 5 }) (frame 10 []) 1).bcast.windows.map
        fun w => (w.rx.next, w.rx.held.length)) = [(some 5, 1)] ∧
      beginOf (begins.set 3 100) = none ∧ (beginOf (begins.set 3 99)).isSome = true ∧ beginOf (begins.set 4 9) = none ∧
      beginOf (begins.set 5 33) = none ∧ beginOf (begins.take 4) = none ∧ beginOf (begins.set 2 0x58) = none ∧
      { world with time.areaSet := some [1] }.passesFilter (bulletin ice7 [2] 1 0) = false ∧
      { world with time.areaSet := some [1] }.passesFilter (bulletin gale1 [2] 1 0) = true := by decide +kernel

theorem test_witness_RegisterTakesBulletins :
    let held (figure : Nat) (msg : Option Nat) : State := { world with
      bcast.register := [⟨ice7, 90000, figure, msg⟩], log := (world.logWrite .bulletin 10001 2).log }
    let t := (held 500 (some 11)).register 10001 (bulletin ice7 [] 4 1)
    (world.register 10001 (bulletin ice7 [] 4 1)).bcast.register.map (fun e => (e.errFig, e.msg)) = [(250, some 13)] ∧
      t.bcast.register.map (fun e => (e.errFig, e.msg)) = [(250, some 13)] ∧ t.record 11 = none ∧
      ((held 250 (some 11)).register 10001 (bulletin ice7 [] 4 1)).log.entries.map (fun e => (e.outcome, e.msg)) =
        [(some .duplicate, some 11)] ∧
      ((held 500 none).register 10001 (bulletin ice7 [] 4 1)).log.entries.map (fun e => (e.outcome, e.msg)) =
        [(some .duplicate, none)] ∧
      (State.allocText { world with store.free := [], store.recs := [] } .reserve
        (bulletinRecord 0 10001 { bulletin gale1 [] 0 0 with text := [0x41] })).1 = none ∧
      ((List.range 65).foldl (fun l n => addRegister ⟨{ ice7 with serial := n }, 0, 0, none⟩ l) []).map
        (·.identity.serial) = (List.range 64).map (· + 1) := by decide +kernel

theorem test_witness_AirtimeIsGrantedAndTaken :
    let held (h : Claim) (l : List Claim) : State := { world with arb := ⟨some h, l, false⟩ }
    (world.place .call).arb.holder = some .call ∧ ((held .call []).place (.must 1)).arb.holder = some (.must 1) ∧
      ((held .session []).place (.must 1)).arb.yieldAsked = true ∧ ((held (.must 2) []).place .distress).arb.holder = some .distress ∧
      ((held (.must 2) [.optional 1]).place (.must 1)).arb.waiting = [.must 1, .optional 1] ∧
      ((held .watch []).place .call).msgs = [.higherWaiting] ∧
      ({ world with main.inService := false }.place .call).msgs = [.refused .call] ∧
      ((held .session [.must 1, .call]).withdrawClaim .call).arb.waiting = [.must 1] ∧
      (held .call [.must 1]).raiseToSession.isNone = true ∧ (held .call [.optional 1]).raiseToSession.isSome = true ∧
      ((held .call [.distress, .watch]).radioOutOfService).msgs = [.revoked .call .radioFault] ∧
      (({ held .session [.call, .distress] with main.inService := false } : State).release).arb.holder = some .distress := by
  decide +kernel

theorem test_witness_ChannelsAndStationsAreChosen :
    let s : State := { world with store.recs := [(3, record .traffic .outbound .queued 3)] }
    let night (c : Channel) : Channel := { c with cfg := { c.cfg with startHour := 22, endHour := 2 } }
    (s.floor 10001, s.floor 10002, (at_ .acknowledged).floor 10001, (at_ .pending).floor 10001) =
        (some .routine, some .urgency, some .distress, none) ∧
      { s with handler.silence := some ⟨10002, 0⟩ }.floor 10001 = none ∧ (s.firstFor 10001).map (·.1) = some 3 ∧
      s.firstFor 10002 = none ∧ s.dueChoice = some 10001 ∧ world.watchChannelOf station1 = some 1 ∧
      world.callChannel { station1 with cfg := { station1.cfg with channels := [] } } = none ∧
      windowOpen .console 90000 (night (channelOf .traffic)).cfg = true ∧
      windowOpen .console 7200 (night (channelOf .traffic)).cfg = false ∧
      windowOpen .unset 90000 (night (channelOf .traffic)).cfg = false ∧
      (channelOf .traffic).failedLately 90000 = false ∧
      { channelOf .traffic with lastFail := some 89401 }.failedLately 90000 = true ∧
      { channelOf .traffic with lastFail := some 89400 }.failedLately 90000 = false ∧
      ((s.backOff 10001).stationOf 10001).map (fun st => (st.k, st.nextCallArmed)) = some (1, true) := by decide +kernel

theorem test_witness_PowerLoadingAndRestart_reception :
    let rx : Reception := { Reception.cleared with settled := 8, errored := 2, bulletin := some { bulletin ice7 [] 4 1 with
      entry := 1 } }
    let s : State := { windowed .receiving rx with
      log := (((world.logWrite .bulletin 10001 2).logWrite .bulletin 10001 2).logWrite .session 10001 1).log }
    s.Settled ∧ s.Passes .restart q1 ∧ s.distress.state = .quiet ∧ s.settings.saveState = .idle ∧
      (after (.restart q1) s).log.entries.map (fun e => (e.outcome, e.errFig)) =
        [(some .lost, some 250), (some .lost, some 250), (some .lost, none)] := by decide +kernel

/-- Loading at POWER-ON from good and from bad images (R161, R210). -/
theorem test_witness_PowerLoadingAndRestart_images :
    let tally : TallyImage := ⟨[⟨cod, 0, 10, 95, false⟩], some 1, [⟨cod, .none, true, false⟩]⟩
    let s (i : SettingsImage) (y : TallyImage) : State :=
      { State.reset with settings.image := some i, settings.tallyImage := some y }
    let good := after (.powerOn 1 2 3) (s world.imageCopy tally)
    let bad := after (.powerOn 1 2 3) (s { world.imageCopy with distressLevel := 4 } { tally with rows := [⟨cod, 33, 0, 0, false⟩] })
    world.imageCopy.good = true ∧ tally.good = true ∧ good.settings.loadGood = true ∧ good.settings.tallyLoadGood = true ∧
      good.catch_.rows = tally.rows ∧ good.catch_.spanStart = some 1 ∧
      good.catch_.species.map (fun e => (e.2.state, e.2.nearRaised)) = [(.near, true), (.none, false)] ∧
      bad.settings.loadGood = false ∧ bad.settings.tallyLoadGood = false ∧ bad.dir.stations = [] ∧ bad.catch_.rows = [] ∧
      bad.settings.distressLevel = 3 := by decide +kernel

/-- RESTART with a good image: the store is settled, and k, Q and the last-taken day are kept (R26, R27, R32, R117). -/
theorem test_witness_PowerLoadingAndRestart_kept :
    let taught : Table Station := [(1, { station1 with k := 3, shoreHold := true })]
    let s : State := { sound with
      dir := { stations := taught, channels := [(1, { channelOf .traffic with q := 640, lastFail := some 5 })] }
      bcast := { sound.bcast with schedule := world.bcast.schedule } }
    let t := after (.restart q1) { s with settings.image := some s.imageCopy }
    s.imageCopy.good = true ∧ s.StoreSound ∧ s.Settled ∧ t.settings.loadGood = true ∧
      t.dir.stations = [(1, { station1 with k := 3 })] ∧ t.dir.channels = s.dir.channels ∧
      t.bcast.schedule = s.bcast.schedule ∧ t.store.next = s.store.next ∧ t.StoreSound := by decide +kernel

/-- KEY of a cut burst does not start the key-up time of the next one (R183, R187). -/
theorem test_key_up_waits_for_its_own_key :
    let s : State := { world with
      main.keyed := true, main.onAir := some (.clear .done, .keying 7)
      ctl := { tag := 8, cmds := [⟨.main, 5, .key, 0, 0⟩, ⟨.main, 6, .unkey, 0, 0⟩, ⟨.main, 7, .key, 0, 0⟩] } }
    let t := after .controlCommandSent (after .controlCommandSent s)
    t.main.onAir = some (.clear .done, .keying 7) ∧
      (after .controlCommandSent t).main.onAir = some (.clear .done, .keyUp) := by decide +kernel

/-- A round with station 10001, in a phase, with so many attempts left; a record waits for the station. -/
def calling (phase : RoundPhase) (left : Nat) : State :=
  { watching with
    arb.holder := some .call, store.recs := [(3, record .traffic .outbound .queued 3)], link.state := .calling
    link.watchChannel := none, link.round := some ⟨10001, left, phase, 1, none, 0, none, false, none⟩ }

theorem test_witness_ExchangeFrame_handled :
    let s : State := { world with link.watchStation := some 10001 }
    run.msgs = [] ∧ run.attend = none ∧ (s.attend.map (·.arb.holder)) = some (some .watch) ∧
      ({ watching with link.watchStation := none } : State).attend.map (·.arb.holder) = some none ∧
      ({ calling .claiming 2 with store.recs := [] } : State).attend.map (·.link.state) = some .idle ∧
      { run with phase := .loading }.attend = none ∧ (calling .claiming 2).arb.holder = some .call ∧
      (({ calling .claiming 2 with msgs := [.granted .call] } : State).settle 1).link.round.map (·.phase) = some .tuning ∧
      (({ watching with arb.holder := some (.must 1), msgs := [.granted .call] } : State).settle 1).link = watching.link := by
  decide +kernel

/-- A waiting request is sent as TUNE-MAIN when the tune in flight has answered READY, also for the channel just tuned, and
READY at once is for a request with no tune in flight (R184). -/
theorem test_witness_ExchangeFrame_tunes :
    let s : State := { world with
      main.tuned := none, main.flight := some ⟨1, none, 9, some 90003⟩, main.nextTune := some (1, .call), ctl.tag := 10 }
    let t := after (.mainTuneAnswer true 9 0) s
    t.main.tuned = some 1 ∧ t.main.nextTune = none ∧ t.main.flight = some ⟨1, some .call, 10, none⟩ ∧
      t.ctl.cmds.map (fun c => (c.kind, c.rx)) = [(.tune, 300000)] ∧
      (world.tuneMain 1 .call).msgs = [.tuned .call true false] ∧ (world.tuneMain 3 .call).main.flight.isSome = true := by
  decide +kernel

theorem test_witness_MessagesKeptReadAndListed_full_log :
    let s : State := (List.range 64).foldl (fun u n => u.logMoment .callIn n 1 .rejected) run
    let t := s.logWrite .session 10001 1
    s.log.entries.length = 64 ∧ t.log.entries.length = 64 ∧ (t.log.entries.map (·.number)).head? = some 1 ∧
      (t.logComplete 64 .complete (some 7)).log.entries.getLast?.map (fun e => (e.outcome, e.msg)) =
        some (some .complete, some 7) := by decide +kernel

theorem test_witness_CallNowAndCallWatch_held :
    let s : State := { world with link.watchStation := some 10001 }
    let cut : State := { watching with main.keyed := true, main.onAir := some (.reject 10003 1000000 .unknown, .bits) }
    s.claimWatch.arb.holder = some .watch ∧ s.claimWatch.msgs = [.granted .watch] ∧ watching.arb.holder = some .watch ∧
      run.claimWatch = run ∧ { at_ .pending with link := s.link }.claimWatch.arb.holder = none ∧
      s.chooseWatch.link.watchChannel = some 1 ∧ s.chooseWatch.main.flight = none ∧
      ({ s with main.tuned := some 3 } : State).chooseWatch.main.flight.map (·.channel) = some 1 ∧
      run.chooseWatch.link.watchChannel = none ∧ cut.giveWay.main.onAir = none ∧
      cut.giveWay.ctl.cmds.map (·.kind) = [.unkey] ∧ cut.giveWay.arb.holder = some .watch ∧
      ({ watching with arb.waiting := [.call] }.giveWay).arb = ⟨some .call, [.watch], false⟩ := by decide +kernel

theorem test_witness_CallsAndAnswersHeard_rounds :
    let due : State := { world with store.recs := [(3, record .traffic .outbound .queued 3)] }
    let round (s : State) := s.link.round.map fun r => (r.phase, r.left, r.calls)
    let none_ (s : State) : State := { s with dir.channels := [] }
    round due.dueTest = some (.claiming, 2, 0) ∧ watching.dueTest = watching ∧ round (calling .claiming 2).callGranted = some (.tuning, 1, 0) ∧
      ((none_ (calling .claiming 2)).callGranted.stationOf 10001).map (·.noChannel) = some true ∧
      (calling .claiming 2).callRefused.link.state = .idle ∧ round ((calling .tuning 1).callTuned true false) = some (.calling, 1, 1) ∧
      round ((calling .tuning 1).callTuned false false) = some (.tuning, 0, 0) ∧
      ((calling .tuning 1).callTuned false true).link.round = none ∧
      ((calling .tuning 0).callTuned false false).link.state = .idle ∧
      ((calling .calling 1).callSent.link.round.map (·.listen)) = some (some 90002) ∧
      (inWaiting false).acceptSent.link.await.map (·.wait) = some (some 90010) ∧ (inWaiting true).rejectSent.link.state = .idle ∧
      (watching.openSession 10001 1 .sending).log.entries.map (·.kind) = [.session] := by decide +kernel

/-- Log entry 70: the entries of an image go to their places, WHL before GUT (R140). -/
theorem test_factorTable_orders :
    factorTable [⟨had, .whl, 1000⟩, ⟨cod, .gut, 1170⟩, ⟨cod, .whl, 1000⟩] =
      [⟨cod, .whl, 1000⟩, ⟨cod, .gut, 1170⟩, ⟨had, .whl, 1000⟩] := by decide +kernel

theorem test_witness_order_of_factors_and_rows :
    (putFactor ⟨cod, .gut, 1200⟩ [⟨cod, .whl, 1000⟩, ⟨cod, .gut, 1170⟩] = [⟨cod, .whl, 1000⟩, ⟨cod, .gut, 1200⟩]) ∧
      putFactor ⟨cod, .whl, 1000⟩ [⟨cod, .gut, 1170⟩, ⟨had, .whl, 1000⟩] =
        [⟨cod, .whl, 1000⟩, ⟨cod, .gut, 1170⟩, ⟨had, .whl, 1000⟩] ∧
      putRow ⟨had, 0, 1, 1, false⟩ [⟨cod, 9, 0, 0, false⟩] = [⟨cod, 9, 0, 0, false⟩, ⟨had, 0, 1, 1, false⟩] ∧
      putRow ⟨cod, 9, 1, 1, false⟩ [⟨cod, 9, 0, 0, false⟩] = [⟨cod, 9, 1, 1, false⟩] ∧
      putRow ⟨cod, 8, 1, 1, false⟩ [⟨cod, 9, 0, 0, false⟩] = [⟨cod, 8, 1, 1, false⟩, ⟨cod, 9, 0, 0, false⟩] := by
  decide +kernel

theorem test_witness_ReportTimeAndTripStart_copies :
    let y := world.tallyCopy
    let old : TallyImage := ⟨[], none, []⟩
    y.quotas.map (·.code) = [cod, had] ∧ world.settings.writing = none ∧
      ((saving world).settings.startWrite (.tally y)).queue = [.tally y] ∧
      ({ (saving world).settings with queue := [.tally old] }.startWrite (.tally y)).queue = [.tally y] := by decide +kernel

/-- The lines of a report: COD 00 00000010 00000020 (R151). -/
theorem test_witness_ReportTriggersTakeTheirCourse_words :
    let s : State := { world with catch_.spanStart := some 0 }
    s.reportSpan = ⟨0, 1⟩ ∧ { s with catch_.spanStart := some 2 }.reportSpan = ⟨1, 1⟩ ∧
      s.reportText s.reportSpan = ascii "CATCH 1000000 00000 00001" ++ crlf ++ ascii "COD 00 00000010 00000020" ++ crlf ∧
      ({ world with store.recs := [(6, record .report .outbound .delivered 3), (8, record .report .outbound .queued 3)] }.trigger
        .now).2 = .pendingReports [(6, none), (8, some .queued)] := by decide +kernel

theorem test_witness_OwnAlertStartedCancelledClosed_claims :
    let kept (air : Bool) : State := { world with arb.holder := some .distress, distress.onAir := air }
    (kept true).claimDistress.distress.grantAfter = true ∧ (kept false).claimDistress.distress.granted = true ∧
      world.claimDistress.arb.holder = some .distress ∧ (kept false).releaseDistress.arb.holder = none ∧
      (after (.distressCancel q1) { at_ .alerting with distress.sent := 1 }).distress.state = .cancelling := by
  decide +kernel

theorem test_witness_AlertCycleRuns_ends :
    let s (d : OwnState) : State := { at_ d with arb.holder := some .distress, distress.rotating := true, distress.onAir := true }
    let empty : State := { s .cancelling with dir.channels := [] }
    { s .acknowledged with distress.releaseAfter := true }.alertSent.arb.holder = none ∧
      { s .pending with distress.grantAfter := true }.alertSent.distress.granted = true ∧
      { s .cancelling with distress.cancelAfter := true }.alertSent.distress.serial = 1 ∧
      (s .alerting).alertSent.distress.slot = some 90006 ∧ { s .alerting with distress.awaitTune := true }.alertSent.distress.slot = none ∧
      empty.rotation = [] ∧ empty.startRotation.distress.state = .quiet ∧
      empty.startRotation.raised = [.ownAlert .cancelled .quiet .undesignated 0 1 none none (some 0)] := by decide +kernel

/-- RESTART: the answer serial is kept, and of the overdue timers that of a freed record is gone (R213, R67, R7). -/
theorem test_witness_PowerLoadingAndRestart_timers :
    let s : State := { sound with
      handler.serial := 7, main.keyed := true, ctl := ⟨3, []⟩
      store.recs := [(1, record .traffic .inbound .receiving 0), (8, record .report .outbound .delivered 0)]
      catch_.overdue := [(8, 90100), (9, 90200)] }
    let t := after (.restart q1) s
    t.handler.serial = 7 ∧ t.catch_.overdue = [(8, 90100), (9, 90200)] ∧ t.ctl = ⟨4, [⟨.main, 3, .unkey, 0, 0⟩]⟩ ∧
      (after (.restart q1) { s with catch_.overdue := [(1, 90100)] }).catch_.overdue = [] := by decide +kernel

/-- The events that are due, in their order: LOADING-END, GRANTED, timers at and before their targets, calendar entries. -/
theorem test_witness_EmptyQueueLetsTimePass_due :
    let s : State := { world with
      distress.granted := true, distress.holdTimer := some 90000, distress.slot := some 90001
      watch.dwell := .dwelling, watch.timer := some 89999
      dir.stations := [(1, { station1 with nextCall := some 90000, nextCallArmed := true }),
        (2, { station1 with nextCall := some 90000 })]
      link.session := some { Session.opened 10001 1 0 with receiveWin := some 90000 }
      time.fix := some { fixNow with time := 89399 }
      catch_.overdue := [(6, 90000), (8, 90001)], catch_.reportTaken := some 0
      bcast.schedule := [(1, ⟨⟨1, 2, 60, 10, true, true⟩, some 0⟩), (2, ⟨⟨1, 2, 61, 10, true, true⟩, some 0⟩)] }
    s.dir.stations.wf = true ∧ s.phase = .running ∧ State.reset.dueEvents = [.loadingEnd] ∧
      { s with phase := .off }.dueEvents = [] ∧
      s.dueEvents = [.granted, .holdTimerExpiry, .dwellExpiry, .nextCallTimeExpiry 1, .receiveWindowExpiry,
        .positionAgeExpiry, .overdueTimerExpiry 6, .scheduleEntryDue 1] := by decide +kernel

/-- A store whose STORE-LOW indication is disarmed, one page short of arming it: record 1 is being received. -/
def lowStore : State :=
  { sound with
    store := {
      free := List.range 191
      recs := [(1, { record .traffic .inbound .receiving 0 with pages := (List.range 833).map (· + 191) })]
      next := 2, lowArmed := false } }

/-- STORE-LOW armed with 128 free pages, and disarmed with 191 (R9). -/
theorem test_witness_StepKeepsStoreSound_low :
    let armed : State := { sound with store := { sound.store with
      free := List.range 128, recs := [(1, { record .traffic .outbound .queued 0 with
        pages := (List.range 896).map (· + 128) })] } }
    armed.StoreSound ∧ runs armed = true ∧ lowStore.StoreSound ∧ runs lowStore = true := by decide +kernel

/-- A text takes its record and then its pages, and frees the record when the pages fail; the number after 65535 is 1. -/
theorem test_witness_ReclaimTakesLowestTierOldestFirst_texts :
    let short := record .traffic .inbound .receiving 65
    let full : State := { run with store.free := [5] }
    let made := run.allocText .reserve short
    let last : Table MsgRec := [(1, short), (65535, short)]
    made.1 = some 1 ∧ made.2.store.recs.map (fun e => e.2.pages) = [[1000, 0, 1]] ∧
      (run.allocText .reserve { short with textLen := 0 }).2.store.free.length = 1024 ∧
      (full.allocText .reserve short).1 = none ∧ (full.allocText .reserve short).2.store.recs = [] ∧
      freeNumber last 3 65535 = 2 ∧ freeNumber last 3 2 = 2 ∧ freeNumber [] 1 65535 = 65535 := by decide +kernel

/-- Engaged: in a session, in a session in waiting that does not end, or called from the first CALL on (R29). -/
theorem test_witness_StationsWrittenAndCleared_engaged :
    let waiting (ending : Bool) : State := { world with link.await := some ⟨10001, 1, 0, none, ending⟩ }
    let called (engaged : Bool) : State :=
      { world with link.round := some ⟨10001, 1, .calling, 1, none, 0, none, engaged, none⟩ }
    [sending.engaged 10001, sending.engaged 10002, (waiting false).engaged 10001, (waiting true).engaged 10001,
      (called true).engaged 10001, (called false).engaged 10001] = [true, false, true, false, true, false] := by
  decide +kernel

/-- In use by the radio: tuned or being tuned for the holder, or a distress channel while the alert is not QUIET (R33). -/
theorem test_witness_ChannelsWrittenAndCleared_inUse :
    let tuning (c : Claim) : State := { watching with main.tuned := none, main.flight := some ⟨2, some c, 9, none⟩ }
    [watching.channelInUse 1, world.channelInUse 1, (tuning .watch).channelInUse 2, (tuning .call).channelInUse 2,
      (at_ .pending).channelInUse 3, world.channelInUse 3] = [true, false, true, false, true, false] ∧
      world.listed 1 = true ∧ world.listed 2 = false ∧ world.scheduled 2 = true ∧ world.scheduled 1 = false ∧
      [15999, 16000, 300000, 300001].map freqInRange = [false, true, true, false] := by decide +kernel

/-- The rotation leaves out disabled channels and stands in ascending order (R32, R167). -/
theorem test_witness_rotation :
    let off : Channel := { channelOf .distress with cfg := { (channelOf .distress).cfg with disabled := true } }
    let s : State := { world with dir.channels := [(1, channelOf .traffic), (3, channelOf .distress), (4, off),
      (48, channelOf .distress)] }
    s.dir.channels.wf = true ∧ s.rotation = [3, 48] := by decide +kernel

/-- A burst handed over is keyed, or waits; a waiting one goes out when nothing is on the air and no tune is in flight. -/
theorem test_witness_CommandsGoOutAndBurstsEnd_handed :
    let busy : State := { world with main.onAir := some (.clear .hold, .bits) }
    let tuning : State := { world with main.flight := some ⟨2, some .call, 9, none⟩, main.burstQ := [.clear .done] }
    let free : State := { world with main.burstQ := [.clear .done, .clear .hold] }
    (world.sendBurst (.clear .done)).main.onAir = some (.clear .done, .keying 0) ∧
      (world.sendBurst (.clear .done)).ctl = ⟨1, [⟨.main, 0, .key, 0, 0⟩]⟩ ∧
      (busy.sendBurst (.clear .done)).main.burstQ = [.clear .done] ∧
      (tuning.sendBurst (.clear .hold)).main.burstQ = [.clear .done, .clear .hold] ∧
      free.nextBurst.main.onAir = some (.clear .done, .keying 0) ∧ free.nextBurst.main.burstQ = [.clear .hold] ∧
      tuning.nextBurst = tuning ∧ busy.nextBurst = busy ∧ world.nextBurst = world := by decide +kernel

/-- A report that is to be sent again: QUEUED, no delivered time, its overdue timer gone (R149, R155). -/
theorem test_witness_ReportTriggersTakeTheirCourse_again :
    let s : State := { world with
      store.recs := [(8, { record .report .outbound .delivered 3 with delivered := some 80000 })]
      catch_.overdue := [(8, 90100), (9, 90200)] }
    let t := s.requeueReport 8
    stateOf t 8 = some .queued ∧ (t.record 8).map (·.delivered) = some none ∧ t.catch_.overdue = [(9, 90200)] := by
  decide +kernel

/-- A yield in the clearing wait sends CLEAR DONE at once (R96); a PRECISE SET-CLOCK moves timers, makes an old fix stale and
takes a calendar entry (R45, R112). -/
theorem test_witness_DirectivesTakeEffect_more :
    let clearing (wait : Option Time) : State := inSession .clearing fun e => { e with clearWait := wait }
    let silenced (imposer : Nat) : State :=
      { clearing (some 90003) with handler.silence := some ⟨imposer, 90600⟩ }
    let sent (s : State) : Bool := s.yieldInClearing.main.onAir == some (.clear .done, .keying 0)
    let s : State := { watching with
      time.fix := some { fixNow with time := 89399 }, catch_.reportTaken := some 1, distress.holdTimer := some 90003 }
    let t := s.obey (order 7 [0, 3, 0, 0, 0])
    sent { clearing (some 90003) with arb.yieldAsked := true } = true ∧ sent (silenced 10002) = true ∧
      (silenced 10001).yieldInClearing = silenced 10001 ∧
      { clearing none with arb.yieldAsked := true }.yieldInClearing.main.onAir = none ∧
      t.time.source = .coast ∧ t.time.now = 0x30000 ∧ t.distress.holdTimer = some (0x30000 + 3) ∧
      t.bcast.schedule.map (fun e => e.2.lastTaken) = [some 2] ∧
      t.time.fix.map (·.ageArmed) = some false ∧
      t.raised.any (fun n => n == .clockStepped 90000 0x30000 .coast) = true := by decide +kernel

/-- RESTART: each port's marks are clear and its answer has joined its queue, the recent directive frames are forgotten, the
register is kept, and STORE-LOW is armed by the pages that are freed (R26, R67, R133, R206, R213). -/
theorem test_witness_PowerLoadingAndRestart_ports :
    let s : State := { lowStore with
      ports.p2 := { lowStore.ports.p2 with flags := 0x8001, overrun := true, frameError := true, hunting := false }
      ports.p1.outQ := [.notice .storeLow], handler.recent := [(10001, 5)] }
    let t := after (.restart q1) s
    s.Settled ∧ s.Passes .restart q1 ∧ s.StoreSound ∧ t.StoreSound ∧ t.store.free.length = 1024 ∧
      t.store.lowArmed = true ∧ t.handler.recent = [] ∧ t.bcast.register = s.bcast.register ∧
      t.ports.p1.outQ = [.notice .storeLow, .answer 7 .restart (plain .ok)] ∧
      t.ports.p2 = { PortState.initial 0 with map := 0, choices := 0xFFFF } := by decide +kernel

/-- R205: the report of a defaulted identity begins with a load that fails and ends with SHIP-SET alone: not with a save and a
RESTART that loads it, but a POWER-ON from a good image begins without it (log entry 63). -/
theorem test_defaulted_until_ship_set :
    let lost := after .loadingEnd (after (.powerOn 0 0 0) State.reset)
    let saved := after (.settingsWriteEnd .done) (after (.saveSettings q1) lost)
    let again := after .loadingEnd (after (.restart q1) saved)
    lost.settings.defaulted = true ∧ again.settings.loadGood = true ∧ again.settings.defaulted = true ∧
      (after (.shipSet q1 2000000 [] []) again).settings.defaulted = false ∧
      (after (.powerOn 0 0 0) saved).settings.loadGood = true ∧
      (after (.powerOn 0 0 0) saved).settings.defaulted = false := by decide +kernel

/-! ### Bytes (Chapter 11) -/

/-- The bytes of a burst after its sync word. -/
def afterSync (b : Burst) : List Byte := b.bytes.drop 2

def volley1 : Burst :=
  .volley 18 8 true false [⟨5, .text, [1, 2, 3]⟩, ⟨6, .textEnd, [9, 8, 7, 6, 5, 4, 3, 2]⟩]

theorem test_bursts_read_back :
    burstCommand .main (afterSync (.call 10001 1000000 .report 3)) = .callBurst .main 10001 1000000 1 3 ∧
      burstCommand .watch (afterSync (.accept 99999 9999999)) = .acceptBurst .watch 99999 9999999 ∧
      burstCommand .main (afterSync (.reject 10001 1000000 .unknown)) = .rejectBurst .main 10001 1000000 2 ∧
      burstCommand .main (afterSync (.clear .error)) = .clearBurst .main 3 ∧
      burstCommand .main (afterSync (.tally ⟨[true, false, false, true], 11, true, false, true, false, true⟩)) =
        .tallyBurst .main ⟨9, 11, true, false, true, false, true⟩ ∧
      burstCommand .main (afterSync (.alert ⟨1234567, .cancel, -1, 540000, 70000, true, 255, 200⟩)) =
        .alertBurst .main ⟨1234567, 9, -1, 540000, 70000, true, 255, 200⟩ := by decide +kernel

theorem test_volley_reads_back :
    burstCommand .main (afterSync volley1) = .volleyBurst .main ⟨true, 18, 2, 0, true⟩
        [⟨true, 5, 0, 3, [1, 2, 3, 0, 0, 0, 0, 0]⟩, ⟨true, 6, 1, 8, [9, 8, 7, 6, 5, 4, 3, 2]⟩] ∧
      cutCommand .main ((afterSync volley1).take 29) = .carrierDrop .main (.volley ⟨true, 18, 2, 0, true⟩
        [⟨true, 5, 0, 3, [1, 2, 3, 0, 0, 0, 0, 0]⟩]) ∧
      cutCommand .main ((afterSync volley1).take 5) = .carrierDrop .main .volleyHeader := by decide +kernel

theorem test_bad_burst_and_undefined_kind :
    burstCommand .main ((afterSync (.clear .done)).map (· ^^^ 0)) = .clearBurst .main 0 ∧
      burstCommand .main [6, 1, 0, 0] = .badBurst .main ∧ burstCommand .watch [9] = .undefinedBurstKind .watch := by
  decide +kernel

/-- The sync search finds a burst behind noise, resumes at the bit after the sync word of no burst, and is idle while the path is
held (R55). -/
theorem test_bit_search :
    let bits := bitsOf (Burst.clear .error).bytes
    BitRx.initial.receive .main false ([true, false, true] ++ bits) =
        (.initial, [.syncWordMatch .main, .clearBurst .main 3]) ∧
      (BitRx.initial.receive .main false (bitsOf ([0xB4, 0xE1, 9] : List Byte) ++ bits)).2 =
        [.syncWordMatch .main, .undefinedBurstKind .main, .syncWordMatch .main, .clearBurst .main 3] ∧
      ((BitRx.initial.receive .watch false (bits.take 30)).1.drop .watch).2 = [.carrierDrop .watch .other] ∧
      BitRx.initial.receive .main true bits = (.initial, []) := by decide +kernel

/-- The 12 bytes on the control link: TUNE of MAIN, tag 7, 123,456 and 234,567 units. -/
theorem test_tune_command_bytes :
    (ControlCmd.bytes ⟨.main, 7, .tune, 123456, 234567⟩).take 10 = [0xC3, 0, 7, 1, 0x01, 0xE2, 0x40, 0x03, 0x94, 0x47] ∧
      (ControlCmd.bytes ⟨.main, 7, .tune, 123456, 234567⟩).length = 12 := by decide +kernel

theorem test_link_messages :
    controlAnswer ([0, 7, 0] ++ crc16Bytes [0, 7, 0]) = .mainTuneAnswer true 7 0 ∧
      controlAnswer ([1, 8, 1] ++ crc16Bytes [1, 8, 1]) = .watchTuneAnswer true 8 1 ∧
      controlAnswer [0, 7, 0, 0, 0] = .mainTuneAnswer false 7 0 ∧
      positionCommand ([1, 0xFF, 0xFF, 0xFF, 0xFF, 0, 0, 1, 0] ++
        crc16Bytes [1, 0xFF, 0xFF, 0xFF, 0xFF, 0, 0, 1, 0]) = .positionRecord true 1 (-1) 256 := by decide +kernel

/-- The bytes of a console frame after its start byte. -/
def afterStart (tag : Byte) (kind : Nat) (body : List Byte) : List Byte := (frameBytes tag kind body).drop 1

theorem test_console_frames :
    consoleCommand .p1 (afterStart 7 1 [0, 0x27, 0x11, 4]) = .create ⟨.p1, 7, true⟩ 10001 4 ∧
      consoleCommand .p2 (afterStart 9 59 []) = .status ⟨.p2, 9, true⟩ ∧
      consoleCommand .p2 (afterStart 9 59 [0]) = .status ⟨.p2, 9, false⟩ ∧
      consoleCommand .p3 (afterStart 1 28 [0, 0, 0, 0]) = .watchStation ⟨.p3, 1, true⟩ none ∧
      consoleCommand .p3 (afterStart 1 10 [1, 0, 128]) = .readLog ⟨.p3, 1, true⟩ (some 128) ∧
      consoleCommand .p1 (afterStart 2 56 [0x0F, 0x42, 0x40, 2, 0x41, 0x42, 0]) =
        .shipSet ⟨.p1, 2, true⟩ 1000000 [0x41, 0x42] [] ∧
      consoleCommand .p1 (afterStart 2 62 [1, 2]) = .unknownRequest ⟨.p1, 2, false⟩ 62 ∧
      consoleCommand .p1 (afterStart 2 0 []) = .unknownRequest ⟨.p1, 2, true⟩ 0 ∧
      consoleCommand .p1 [0, 7, 59, 0, 0] = .badFrame .p1 ∧ consoleCommand .p1 [251] = .badFrame .p1 := by
  decide +kernel

/-- The widths of the images: 3,074 bytes before the CRC-32 of the settings, 1,127 with the CRC-32 of the tally. -/
theorem test_image_widths :
    SettingsImage.default.items.length = 3074 ∧
      (TallyImage.mk [⟨[0x43, 0x4F, 0x44], 4, 10, 20, true⟩] (some 812) []).bytes.length = 1127 := by decide +kernel

/-- A good frame inside a bad one is found: the hunt resumes at the byte after the bad frame's start byte (R199, R215). -/
theorem test_hunt_resumes_behind_the_start_byte :
    let good := frameBytes 9 59 []
    let control : List Byte := 0xC3 :: ([0, 7, 0] ++ crc16Bytes [0, 7, 0])
    (RxLine.console .p1).receive [] ([0x7E, 2, 0x41] ++ good) =
        ([.consoleStartByte .p1, .badFrame .p1, .huntingByteDiscarded .p1, .huntingByteDiscarded .p1,
          .consoleStartByte .p1, .status ⟨.p1, 9, true⟩], []) ∧
      RxLine.control.receive [] ([0xC3, 0] ++ control) =
        ([.linkStartByte .control, .mainTuneAnswer false 0xC3 0, .linkStartByte .control, .mainTuneAnswer true 7 0], []) ∧
      (RxLine.console .p1).receive [] (good.take 4) = ([.consoleStartByte .p1], good.take 4) ∧
      (RxLine.console .p1).timeOut (good.take 3) =
        [.consoleInterByteTimeout .p1, .huntingByteDiscarded .p1, .huntingByteDiscarded .p1] := by decide +kernel

/-- The bytes of answers and notices, and the asynchronous character around a byte (R201, R214). -/
theorem test_answers_notices_and_characters :
    Answer.bytes (plain .badArgument) = [3] ∧ Answer.bytes ⟨.ok, .delta (-2)⟩ = [0, 0xFF, 0xFF, 0xFF, 0xFE] ∧
      Answer.bytes ⟨.ok, .created 258 []⟩ = [0, 1, 2, 0] ∧
      Answer.bytes ⟨.empty, .logEntries [] (some 3)⟩ = [12, 0, 1, 0, 3] ∧
      Notice.bytes (.newMessage 258) = [8, 1, 2] ∧
      Notice.bytes (.silence false none none .ended) = [2, 0, 0, 0, 0, 0, 0, 0, 0, 0, 0, 3] ∧
      OutFrame.bytes (.notice .storeLow) = frameBytes 0 0 [23] ∧
      character 0x7E = [false, false, true, true, true, true, true, true, false, true] := by decide +kernel

end Sys2Proof.Tests
end

/-! Proofs about the exchange of messages between blocks (R72, R77, R97, R184, R187, R191 to R197). -/
section

namespace Sys2Proof.Machine.LinkedTraffic

/-! ### The engine's and the arbiter's tests as propositions -/

section
variable (s : State)

/-- The watch station is set, and it is a loaded station (R72). -/
def WatchStationLoaded : Prop := ∃ n st, s.link.watchStation = some n ∧ s.stationOf n = some st

/-- The own alert is PENDING, ALERTING or CANCELLING (R97). -/
def AlertBarsClaims : Prop :=
  s.distress.state = .pending ∨ s.distress.state = .alerting ∨ s.distress.state = .cancelling

/-- The engine claims airtime for a round whose station is no longer due (R77). -/
def RoundNoLongerDue : Prop := ∃ r, s.link.round = some r ∧ r.phase = .claiming ∧
  ∀ st, s.stationOf r.station = some st → s.due st = false

/-- The engine is without a call watch that it should hold (R72, R97). -/
def LacksCallWatch : Prop := s.link.state = .idle ∧ WatchStationLoaded s ∧ ¬AlertBarsClaims s ∧
  s.main.inService = true ∧ s.arb.holder ≠ some .watch ∧ Claim.watch ∉ s.arb.waiting

/-- The idle engine has a call watch, held or claimed, for which it has no station (R72). -/
def HasIdleCallWatch : Prop := s.link.state = .idle ∧ ¬WatchStationLoaded s ∧
  (s.arb.holder = some .watch ∨ Claim.watch ∈ s.arb.waiting)

theorem holds_iff_holder (c : Claim) : s.holds_ c = true ↔ s.arb.holder = some c := by simp [State.holds_]

theorem waits_iff_mem (c : Claim) : s.waits c = true ↔ c ∈ s.arb.waiting := by simp [State.waits]

theorem distressBars_iff : s.distressBars = true ↔ AlertBarsClaims s := by
  unfold State.distressBars AlertBarsClaims
  cases s.distress.state <;> simp

theorem watchEntry_isSome_iff : s.watchEntry.isSome = true ↔ WatchStationLoaded s := by
  unfold State.watchEntry WatchStationLoaded
  cases s.link.watchStation <;> simp [Option.isSome_iff_exists]

theorem wantsWatch_iff :
    s.wantsWatch = true ↔ s.link.state = .idle ∧ WatchStationLoaded s ∧ ¬AlertBarsClaims s := by
  simp only [State.wantsWatch, Bool.and_eq_true, beq_iff_eq, Bool.not_eq_true', ← Bool.not_eq_true, and_assoc,
    watchEntry_isSome_iff, distressBars_iff]

theorem staleChoice_iff : s.staleChoice = true ↔ RoundNoLongerDue s := by
  unfold State.staleChoice RoundNoLongerDue
  cases s.link.round with
  | none => simp
  | some r => cases h : s.stationOf r.station <;> simp [h]

theorem lacksCallWatch_iff :
    (s.wantsWatch && s.main.inService && !s.holds_ .watch && !s.waits .watch) = true ↔ LacksCallWatch s := by
  simp only [Bool.and_eq_true, Bool.not_eq_true', ← Bool.not_eq_true, wantsWatch_iff, holds_iff_holder, waits_iff_mem,
    and_assoc, LacksCallWatch, ne_eq]

theorem hasIdleCallWatch_iff :
    (s.link.state == .idle && s.watchEntry.isNone && (s.holds_ .watch || s.waits .watch)) = true ↔
      HasIdleCallWatch s := by
  have loaded : s.watchEntry.isNone = true ↔ ¬WatchStationLoaded s := by
    rw [← watchEntry_isSome_iff, Option.not_isSome_iff_eq_none, Option.isNone_iff_eq_none]
  simp only [Bool.and_eq_true, Bool.or_eq_true, beq_iff_eq, loaded, holds_iff_holder, waits_iff_mem, and_assoc,
    HasIdleCallWatch]

end

/-! ### What the engine does with no message left -/

theorem attend_of_not_running {s : State} (h : s.phase ≠ .running) : s.attend = none := by
  unfold State.attend
  exact if_pos h

theorem attend_of_stale {s : State} (hr : s.phase = .running) (h : RoundNoLongerDue s) :
    s.attend = some (s.giveUp .call).toIdle := by
  unfold State.attend
  rw [if_neg (not_not_intro hr), if_pos ((staleChoice_iff s).2 h)]

theorem attend_of_lacking {s : State} (hr : s.phase = .running) (hs : ¬RoundNoLongerDue s) (h : LacksCallWatch s) :
    s.attend = some s.claimWatch := by
  unfold State.attend
  rw [if_neg (not_not_intro hr), if_neg (mt (staleChoice_iff s).1 hs), if_pos ((lacksCallWatch_iff s).2 h)]

/-- The claim and the giving up of the call watch exclude each other by the station. -/
theorem attend_of_idle_watch {s : State} (hr : s.phase = .running) (hs : ¬RoundNoLongerDue s) (h : HasIdleCallWatch s) :
    s.attend = some (s.giveUp .watch) := by
  have held : ¬LacksCallWatch s := by
    rintro ⟨-, loaded, -⟩
    obtain ⟨-, notLoaded, -⟩ := h
    exact notLoaded loaded
  unfold State.attend
  rw [if_neg (not_not_intro hr), if_neg (mt (staleChoice_iff s).1 hs), if_neg (mt (lacksCallWatch_iff s).1 held),
    if_pos ((hasIdleCallWatch_iff s).2 h)]

theorem attend_of_content {s : State} (hr : s.phase = .running) (hs : ¬RoundNoLongerDue s) (hl : ¬LacksCallWatch s)
    (hi : ¬HasIdleCallWatch s) : s.attend = none := by
  unfold State.attend
  rw [if_neg (not_not_intro hr), if_neg (mt (staleChoice_iff s).1 hs), if_neg (mt (lacksCallWatch_iff s).1 hl),
    if_neg (mt (hasIdleCallWatch_iff s).1 hi)]

/-! ### Messages are taken in turn -/

theorem settle_message {s : State} {m : Msg} {rest : List Msg} (h : s.msgs = m :: rest) (k : Nat) :
    s.settle (k + 1) = (({ s with msgs := rest } : State).handle m).settle k := by
  rw [State.settle, h]

theorem settle_quiet {s : State} (hm : s.msgs = []) (ha : s.attend = none) (k : Nat) : s.settle (k + 1) = s := by
  rw [State.settle, hm, ha]

theorem settle_attend {s t : State} (hm : s.msgs = []) (ha : s.attend = some t) (k : Nat) :
    s.settle (k + 1) = t.settle k := by
  rw [State.settle, hm, ha]

/-! ### One handler for each message -/

theorem handle_higherWaiting (s : State) :
    s.handle .higherWaiting = if s.link.state = .idle then s.giveWay else s := rfl

theorem handle_backInService (s : State) :
    s.handle .backInService = if s.link.state = .idle then s.claimWatch.dueTest else s := rfl

theorem handle_revoked_watch (s : State) (cause : RevokeCause) :
    s.handle (.revoked .watch cause) = if s.link.state = .idle then s.linkRevoked cause else s := rfl

theorem handle_revoked_call (s : State) (cause : RevokeCause) :
    s.handle (.revoked .call cause) = if s.link.state = .calling then s.linkRevoked cause else s := rfl

theorem handle_refused_call (s : State) :
    s.handle (.refused .call) = if s.link.state = .calling then s.callRefused else s := rfl

theorem inSession_iff (s : State) : s.inSession = true ↔ s.link.state ≠ .idle ∧ s.link.state ≠ .calling := by
  simp [State.inSession]

theorem handle_revoked_session (s : State) (cause : RevokeCause) : s.handle (.revoked .session cause) =
    if s.link.state ≠ .idle ∧ s.link.state ≠ .calling then s.linkRevoked cause else s := by
  simp only [← inSession_iff]
  rfl

/-- A grant or a tune of a claim that no longer holds airtime is out of date (R184, R191). -/
theorem handle_of_not_holder {s : State} {c : Claim} (h : s.arb.holder ≠ some c) :
    s.handle (.granted c) = s ∧ ∀ ready out, s.handle (.tuned c ready out) = s := by
  have hh : (!s.holds_ c) = true := by rw [Bool.not_eq_true', ← Bool.not_eq_true, holds_iff_holder]; exact h
  exact ⟨if_pos hh, fun _ _ => if_pos hh⟩

/-- The block whose claim holds airtime takes GRANTED. -/
def takeGranted (s : State) (c : Claim) : State :=
  match c with
  | .watch => s.chooseWatch
  | .call => s.callGranted
  | .must _ | .optional _ => s.windowGranted c
  | .session | .distress => s

theorem handle_granted_of_holder {s : State} {c : Claim} (h : s.arb.holder = some c) :
    s.handle (.granted c) = takeGranted s c := by
  have hh : ¬(!s.holds_ c) = true := by rw [(holds_iff_holder s c).2 h]; decide
  exact (if_neg hh).trans (by cases c <;> rfl)

/-- The block whose claim holds airtime takes the end of its tune. -/
def takeTuned (s : State) (c : Claim) (ready out : Bool) : State :=
  match c with
  | .watch => s.watchTuned ready
  | .call => s.callTuned ready out
  | .must _ | .optional _ => s.windowTuned c ready
  | .distress => s.alertTuned ready
  | .session => s

theorem handle_tuned_of_holder {s : State} {c : Claim} (h : s.arb.holder = some c) (ready out : Bool) :
    s.handle (.tuned c ready out) = takeTuned s c ready out := by
  have hh : ¬(!s.holds_ c) = true := by rw [(holds_iff_holder s c).2 h]; decide
  exact (if_neg hh).trans (by cases c <;> rfl)

/-! ### Tunes that blocks ask for -/

/-- The state after TUNE-MAIN has become due for a channel, which carries frequency 0 when it is not loaded (R184; log
entry 25). -/
def tuneSent (t : State) (ch : Nat) (c : Claim) : State :=
  { t with
    ctl := {
      tag := t.ctl.tag + 1
      cmds := t.ctl.cmds ++ [{
        radio := .main, tag := t.ctl.tag, kind := .tune
        tx := (t.dir.channels.find ch).elim 0 fun (x : Channel) => x.cfg.tx
        rx := (t.dir.channels.find ch).elim 0 fun (x : Channel) => x.cfg.rx }] }
    main.flight := some { channel := ch, requester := some c, tag := t.ctl.tag, timer := none } }

theorem sendTune_eq_tuneSent (s : State) (ch : Nat) (c : Claim) : s.sendTune ch c = tuneSent s ch c := by
  unfold State.sendTune State.channel tuneSent
  cases s.dir.channels.find ch <;> rfl

theorem tuneMain_of_flight {s : State} (h : s.main.flight ≠ none) (ch : Nat) (c : Claim) :
    s.tuneMain ch c = { s with main.nextTune := some (ch, c) } := by
  unfold State.tuneMain
  exact if_pos (Option.isSome_iff_ne_none.2 h)

theorem sendWaitingTune_of_flight {s : State} (h : s.main.flight ≠ none) : s.sendWaitingTune = s := by
  unfold State.sendWaitingTune
  cases hf : s.main.flight with
  | none => exact absurd hf h
  | some t => rfl

theorem tuneMain_of_tuned {s : State} (hf : s.main.flight = none) {ch : Nat} (ht : s.main.tuned = some ch) (c : Claim) :
    s.tuneMain ch c = s.post (.tuned c true (!s.main.inService)) := by
  simp [State.tuneMain, hf, ht]

theorem tuneMain_of_elsewhere {s : State} (hf : s.main.flight = none) {ch : Nat} (ht : s.main.tuned ≠ some ch)
    (c : Claim) : s.tuneMain ch c = tuneSent s ch c := by
  simp [State.tuneMain, hf, ht, sendTune_eq_tuneSent]

theorem sendWaitingTune_of_none {s : State} (h : s.main.nextTune = none) : s.sendWaitingTune = s := by
  unfold State.sendWaitingTune
  rw [h]
  cases s.main.flight <;> rfl

theorem sendWaitingTune_of_request {s : State} (hf : s.main.flight = none) {ch : Nat} {c : Claim}
    (hn : s.main.nextTune = some (ch, c)) : s.sendWaitingTune = tuneSent { s with main.nextTune := none } ch c := by
  rw [← sendTune_eq_tuneSent, State.sendWaitingTune, hf, hn]

/-! ### The statement -/

/-- Settles O13: the frame is that of the laws, and the turn of the messages, each handler, the engine's own acts and
the tunes are the lemmas above. -/
theorem exchangeFrame : Obligations.ExchangeFrame := by
  unfold Obligations.ExchangeFrame
  refine ⟨fun s => ⟨work_frame s, work_calm s⟩, ?_, ?_⟩
  · intro s idle engaged watched barred stale waits holds claims leaves
    refine ⟨?turn, ?plain, ?bursts, ?notHolder, ?holder, ?ended, attend_of_not_running, ?attends⟩
    case turn =>
      exact ⟨rfl, rfl, fun k => ⟨fun m rest h => settle_message h k,
        fun hm => ⟨fun ha => settle_quiet hm ha k, fun t ha => settle_attend hm ha k⟩⟩⟩
    case plain =>
      refine ⟨rfl, rfl, rfl, fun h => ?_, fun h => ?_⟩ <;> rw [handle_higherWaiting, handle_backInService]
      · exact ⟨if_pos h, if_pos h⟩
      · exact ⟨if_neg h, if_neg h⟩
    case bursts =>
      exact ⟨fun _ _ _ _ => rfl, fun _ _ => rfl, fun _ _ _ => rfl, fun _ _ _ _ _ => rfl, fun _ => rfl, fun _ => rfl,
        fun _ => rfl⟩
    case notHolder => exact fun c h => handle_of_not_holder h
    case holder =>
      intro c h
      have granted := handle_granted_of_holder h
      have tuned := handle_tuned_of_holder h
      refine ⟨?_, ?_, ?_, ?_, ?_⟩
      · rintro rfl; exact ⟨granted, tuned⟩
      · rintro rfl; exact ⟨granted, tuned⟩
      · rintro ⟨n, rfl | rfl⟩ <;> exact ⟨granted, tuned⟩
      · rintro rfl; exact ⟨granted, tuned⟩
      · rintro rfl; exact ⟨granted, tuned⟩
    case ended =>
      intro cause n
      refine ⟨?_, ?_, ?_, ?_, ?_, ?_, rfl, rfl, rfl, rfl, rfl, rfl, rfl, rfl⟩ <;> intro h
      · exact (handle_revoked_watch s cause).trans (if_pos h)
      · exact (handle_revoked_watch s cause).trans (if_neg h)
      · exact ⟨(handle_revoked_call s cause).trans (if_pos h), (handle_refused_call s).trans (if_pos h)⟩
      · exact ⟨(handle_revoked_call s cause).trans (if_neg h), (handle_refused_call s).trans (if_neg h)⟩
      · exact (handle_revoked_session s cause).trans (if_pos h)
      · exact (handle_revoked_session s cause).trans (if_neg h)
    case attends =>
      exact fun hr => ⟨attend_of_stale hr, attend_of_lacking hr, attend_of_idle_watch hr, attend_of_content hr⟩
  · intro s ch c sent
    refine ⟨fun hf => ⟨tuneMain_of_flight hf ch c, sendWaitingTune_of_flight hf⟩, fun hf => ?_⟩
    exact ⟨fun ht => tuneMain_of_tuned hf ht c, fun ht => tuneMain_of_elsewhere hf ht c, sendWaitingTune_of_none,
      sendWaitingTune_of_request hf⟩

end Sys2Proof.Machine.LinkedTraffic
end

/-! Proofs about the broadcast windows (R45, R72, R117, R120 to R126, R130). -/
section

namespace Sys2Proof.Machine.LinkedTraffic

/-! ### Window records -/

theorem window_isSome_iff (s : State) (entry : Nat) :
    (s.window entry).isSome = true ↔ ∃ w ∈ s.bcast.windows, w.entry = entry := by
  simp [State.window, List.find?_isSome]

theorem removeWindow_eq_filter (s : State) (entry : Nat) : s.removeWindow entry =
    { s with bcast.windows := s.bcast.windows.filter fun v => decide (v.entry ≠ entry) } := by
  have test : (fun v : Window => v.entry != entry) = fun v => decide (v.entry ≠ entry) := by
    funext v
    by_cases h : v.entry = entry <;> simp [h]
  rw [State.removeWindow, test]

/-! ### Taking an occurrence -/

theorem receivable_iff (s : State) (n : Nat) : s.receivable n = true ↔
    ∃ c, s.dir.channels.find n = some c ∧ c.cfg.disabled = false ∧ c.cfg.use = .broadcast := by
  simp [State.receivable, State.channel, Option.any_eq_true]

theorem not_receivable_iff (s : State) (n : Nat) : s.receivable n = false ↔
    ∀ c, s.dir.channels.find n = some c → c.cfg.disabled = true ∨ c.cfg.use ≠ .broadcast := by
  simp only [← Bool.not_eq_true, receivable_iff, not_exists, not_and]
  refine forall_congr' fun c => imp_congr_right fun _ => ?_
  cases c.cfg.disabled <;> simp

/-- The end of the window of an occurrence (R117, R121). -/
def occurrenceEnd (cfg : ScheduleCfg) (day : Int) : Time :=
  openingTime day cfg.start + BitVec.ofNat 32 (cfg.duration * 60)

/-- The station number read at the taking of an occurrence, 0 for an empty entry (log entry 58). -/
def stationAtTaking (s : State) (cfg : ScheduleCfg) : Nat :=
  (s.dir.stations.find cfg.station).elim 0 fun (x : Station) => x.cfg.number

/-- What makes an occurrence missed at its taking (R121). -/
def OccurrenceMissed (s : State) (entry : Nat) (cfg : ScheduleCfg) (day : Int) : Prop :=
  (s.time.now - occurrenceEnd cfg day).toNat < 2 ^ 31 ∨ s.dir.stations.find cfg.station = none ∨
    (∀ c, s.dir.channels.find cfg.channel = some c → c.cfg.disabled = true ∨ c.cfg.use ≠ .broadcast) ∨
    ∃ w ∈ s.bcast.windows, w.entry = entry

/-- The window record of an occurrence (R120, R121). -/
def occurrenceWindow (s : State) (entry : Nat) (cfg : ScheduleCfg) (day : Int) : Window :=
  { entry, station := stationAtTaking s cfg, channel := cfg.channel, must := cfg.must
    opening := openingTime day cfg.start, endTime := occurrenceEnd cfg day, state := .waiting, logEntry := 0
    rx := Reception.cleared }

theorem occurrenceMissed_iff (s : State) (entry : Nat) (cfg : ScheduleCfg) (day : Int) :
    (passed s.time.now (occurrenceEnd cfg day) || (s.dir.stations.find cfg.station).isNone ||
      !s.receivable cfg.channel || (s.window entry).isSome) = true ↔ OccurrenceMissed s entry cfg day := by
  simp only [Bool.or_eq_true, or_assoc, Bool.not_eq_true', not_receivable_iff, window_isSome_iff, passed,
    decide_eq_true_eq, Option.isNone_iff_eq_none, OccurrenceMissed]

theorem takeOccurrence_of_disabled (s : State) (entry : Nat) {cfg : ScheduleCfg} (day : Int) (h : cfg.enabled = false) :
    s.takeOccurrence entry cfg day = s := by
  simp [State.takeOccurrence, h]

theorem takeOccurrence_of_enabled (s : State) (entry : Nat) {cfg : ScheduleCfg} (day : Int) (h : cfg.enabled = true) :
    s.takeOccurrence entry cfg day =
      if passed s.time.now (occurrenceEnd cfg day) || (s.dir.stations.find cfg.station).isNone ||
          !s.receivable cfg.channel || (s.window entry).isSome then
        (s.logMoment .bulletin (stationAtTaking s cfg) cfg.channel .missed).raise
          (.bulletinMissed entry (stationAtTaking s cfg) (openingTime day cfg.start) .missed)
      else s.openWindow (occurrenceWindow s entry cfg day) := by
  unfold State.takeOccurrence
  rw [h]
  rfl

theorem takeOccurrence_of_missed {s : State} {entry : Nat} {cfg : ScheduleCfg} {day : Int} (h : cfg.enabled = true)
    (hm : OccurrenceMissed s entry cfg day) : s.takeOccurrence entry cfg day =
      (s.logMoment .bulletin (stationAtTaking s cfg) cfg.channel .missed).raise
        (.bulletinMissed entry (stationAtTaking s cfg) (openingTime day cfg.start) .missed) := by
  rw [takeOccurrence_of_enabled s entry day h, if_pos ((occurrenceMissed_iff s entry cfg day).2 hm)]

theorem takeOccurrence_of_not_missed {s : State} {entry : Nat} {cfg : ScheduleCfg} {day : Int}
    (h : cfg.enabled = true) (hm : ¬OccurrenceMissed s entry cfg day) :
    s.takeOccurrence entry cfg day = s.openWindow (occurrenceWindow s entry cfg day) := by
  rw [takeOccurrence_of_enabled s entry day h, if_neg (mt (occurrenceMissed_iff s entry cfg day).1 hm)]

/-! ### A window joins, and its claim is placed -/

/-- The state after a claim has been placed in `s` with the outcome `placed`: a call watch that it waits behind gives way
(R72). -/
def watchGivesWay (s placed : State) (c : Claim) : State :=
  if c ∈ placed.arb.waiting ∧ s.link.state = .idle ∧ placed.arb.holder = some .watch then placed.release.claimWatch
  else placed

theorem watchGivesWay_eq (s placed : State) (c : Claim) :
    (if placed.waits c && s.link.state == .idle then placed.giveWay else placed) = watchGivesWay s placed c := by
  have waits : (placed.waits c && s.link.state == .idle) = true ↔ c ∈ placed.arb.waiting ∧ s.link.state = .idle := by
    rw [Bool.and_eq_true, waits_iff_mem, beq_iff_eq]
  unfold State.giveWay watchGivesWay
  simp only [waits, holds_iff_holder, ← and_assoc]
  by_cases h : c ∈ placed.arb.waiting ∧ s.link.state = .idle
  · simp only [h, true_and, and_self, if_true]
  · rw [if_neg h, if_neg fun hg => h hg.1]

theorem openWindow_eq (s : State) (w : Window) :
    let placed := State.place { s with bcast.windows := s.bcast.windows ++ [w] } w.claim
    let given := watchGivesWay s placed w.claim
    s.openWindow w =
      if (s.arb.holder = none ∨ w.claim ∈ placed.arb.waiting) ∧ given.arb.holder = some w.claim then
        given.windowGranted w.claim
      else given := by
  intro placed given
  have acts : ((s.arb.holder.isNone || placed.waits w.claim) && given.holds_ w.claim) = true ↔
      (s.arb.holder = none ∨ w.claim ∈ placed.arb.waiting) ∧ given.arb.holder = some w.claim := by
    rw [Bool.and_eq_true, Bool.or_eq_true, Option.isNone_iff_eq_none, waits_iff_mem, holds_iff_holder]
  unfold State.openWindow
  dsimp only
  rw [watchGivesWay_eq]
  exact ite_congr (propext acts) (fun _ => rfl) fun _ => rfl

/-! ### Grants, refusals, tunes, revocations and ends of a window -/

section
variable {s : State} {c : Claim} {w : Window}

theorem windowGranted_of_waiting (hw : s.windowOf c = some w) (h : w.state = .waiting) : s.windowGranted c =
    State.tuneMain ((s.logWrite .bulletin w.station w.channel).updWindow w.entry fun v =>
      { v with state := .tuning, logEntry := s.log.next }) w.channel c := by
  simp only [State.windowGranted, hw, h, ne_eq, not_true_eq_false, if_false]

theorem windowGranted_of_not_waiting (hw : s.windowOf c = some w) (h : w.state ≠ .waiting) : s.windowGranted c = s := by
  simp only [State.windowGranted, hw, ne_eq, h, not_false_eq_true, if_true]

theorem windowRefused_of_window (hw : s.windowOf c = some w) : s.windowRefused c =
    ((s.logMoment .bulletin w.station w.channel .radioFault).raiseMissed w .radioFault).removeWindow w.entry := by
  simp only [State.windowRefused, hw]

theorem windowTuned_ready (hw : s.windowOf c = some w) (h : w.state = .tuning) : s.windowTuned c true =
    s.updWindow w.entry fun v => { v with state := .receiving, rx := Reception.cleared } := by
  simp only [State.windowTuned, hw, h, ne_eq, not_true_eq_false, if_false, if_true]

theorem windowTuned_fault (hw : s.windowOf c = some w) (h : w.state = .tuning) : s.windowTuned c false =
    (((s.logComplete w.logEntry .radioFault none w.rx.figure).raiseMissed w .radioFault).removeWindow
      w.entry).release := by
  simp only [State.windowTuned, hw, h, ne_eq, not_true_eq_false, if_false, Bool.false_eq_true]

theorem windowTuned_of_not_tuning (hw : s.windowOf c = some w) (h : w.state ≠ .tuning) (ready : Bool) :
    s.windowTuned c ready = s := by
  simp only [State.windowTuned, hw, ne_eq, h, not_false_eq_true, if_true]

theorem windowRevoked_preEmpted (hw : s.windowOf c = some w) (n : Nat) : s.windowRevoked c (.preEmpted n) =
    (s.cutEntries w .preEmpted .preEmpted).removeWindow w.entry := by
  simp only [State.windowRevoked, hw, reduceCtorEq, if_false, State.cutReception]

theorem windowRevoked_radioFault (hw : s.windowOf c = some w) : s.windowRevoked c .radioFault =
    ((s.cutEntries w .radioFault .radioFault).removeWindow w.entry).raiseMissed w .radioFault := by
  simp only [State.windowRevoked, hw, if_true, State.cutReception]

theorem windowEnded_of_waiting (s : State) (h : w.state = .waiting) : s.windowEnded w =
    (((s.withdrawClaim w.claim).logMoment .bulletin w.station w.channel .missed).raiseMissed w .missed).removeWindow
      w.entry := by
  simp only [State.windowEnded, h]

theorem windowEnded_of_not_waiting (s : State) (h : w.state ≠ .waiting) : s.windowEnded w =
    ((s.cutEntries w .lost .complete).removeWindow w.entry).release := by
  unfold State.windowEnded
  cases hs : w.state with
  | waiting => exact absurd hs h
  | tuning => rfl
  | receiving => rfl

end

/-! ### The statement -/

/-- Settles O56: an occurrence by the three cases of its taking, and a window by its state at each message. -/
theorem windowsTakeTheirCourse : Obligations.WindowsTakeTheirCourse := by
  unfold Obligations.WindowsTakeTheirCourse
  refine ⟨?taking, ?course⟩
  case taking =>
    intro s entry cfg day opening endTime number missed claim window placed given
    refine ⟨takeOccurrence_of_disabled s entry day, takeOccurrence_of_missed, fun he hm => ?_⟩
    exact (takeOccurrence_of_not_missed he hm).trans (openWindow_eq s (occurrenceWindow s entry cfg day))
  case course =>
    intro s c w hw changed removed told windowFigure cut
    have removed_eq : ∀ t, removed t = t.removeWindow w.entry := fun t => (removeWindow_eq_filter t w.entry).symm
    have cut_eq : ∀ b o, cut b o = s.cutEntries w b o := fun b o => rfl
    simp only [removed_eq, cut_eq]
    exact ⟨windowGranted_of_waiting hw, windowGranted_of_not_waiting hw, windowRefused_of_window hw,
      windowTuned_ready hw, windowTuned_fault hw, windowTuned_of_not_tuning hw, windowRevoked_preEmpted hw,
      windowRevoked_radioFault hw, windowEnded_of_waiting s, windowEnded_of_not_waiting s⟩

end Sys2Proof.Machine.LinkedTraffic
end

/-! Proofs about the catch unit and the writes to the serial memory (R138 to R160, R210, R211). -/
section

namespace Sys2Proof.Machine.CatchAndSaves

/-! ### Requests of one block that raise no notice -/

theorem localRequest_silent {s t : State} {k : ReqKind} {r : Req} {a : Answer} (h : s.Settled) (hp : s.Passes k r)
    (hk : ∀ n, k ≠ .other n) (f : State → State × Answer) (hf : f (s.taken r) = (t.taken r, a)) (ht : t.Settled)
    (hq : t.pending = s.pending) : localRequest k r s f = .next (t.answered k r a []) := by
  have quiet : (t.taken r).raised = [] := ht.2.1
  exact localRequest_next h hp hk f (by rw [hf, ← quiet]) ht hq

/-! ### Writes to the serial memory, one at a time (R160, R211) -/

theorem saving_iff (s : State) : s.saving = true ↔ s.settings.saveState ≠ .idle := by simp [State.saving]

theorem startWrite_of_free {c : Settings} (h : c.writing = none) (w : SerialWrite) :
    c.startWrite w = { c with writing := some w } := by
  simp [Settings.startWrite, h]

theorem startWrite_settings_of_busy {c : Settings} (h : c.writing ≠ none) (i : SettingsImage) :
    c.startWrite (.settings i) = { c with queue := c.queue ++ [.settings i] } := by
  simp [Settings.startWrite, h, SerialWrite.isTally]

theorem nextWrite_eq (c : Settings) : c.nextWrite = { c with writing := c.queue.head?, queue := c.queue.tail } := by
  unfold Settings.nextWrite
  split
  · next h => rw [h, List.head?_nil, List.tail_nil, ← h]
  · next h => rw [h, List.head?_cons, List.tail_cons]

/-- The receivers of the ports are no part of the image. -/
theorem imageCopy_taken (s : State) (r : Req) : (s.taken r).imageCopy = s.imageCopy := by
  obtain ⟨p, -, -⟩ := r
  cases p <;> rfl

theorem takeSaveSettings_of_saving {s : State} (h : s.settings.saveState ≠ .idle) :
    s.takeSaveSettings = (s, plain .inUse) := if_pos ((saving_iff s).2 h)

theorem takeSaveSettings_of_free {s : State} (idle : s.settings.saveState = .idle) (free : s.settings.writing = none) :
    s.takeSaveSettings =
      ({ s with settings.writing := some (.settings s.imageCopy) }, ⟨.ok, .saving false⟩) := by
  have notSaving : ¬s.saving = true := fun hs => (saving_iff s).1 hs idle
  rw [State.takeSaveSettings, if_neg notSaving, startWrite_of_free free, free]
  rfl

theorem takeSaveSettings_of_busy {s : State} {w : SerialWrite} (idle : s.settings.saveState = .idle)
    (busy : s.settings.writing = some w) : s.takeSaveSettings =
      ({ s with settings.queue := s.settings.queue ++ [.settings s.imageCopy] }, ⟨.ok, .saving true⟩) := by
  have notSaving : ¬s.saving = true := fun hs => (saving_iff s).1 hs idle
  have waits : s.settings.writing.isSome = true := by rw [busy]; rfl
  rw [State.takeSaveSettings, if_neg notSaving, startWrite_settings_of_busy (by simp [busy]), waits]

/-- The notices of a write that has ended. -/
def lossNotices (image : ImageArea) (result : WriteResult) : List Notice :=
  if writeFailed result then [.settingsLost image .saveFailed] else []

theorem settingsWritten_of_writing {s : State} {i : SettingsImage} (h : s.settings.writing = some (.settings i))
    (hr : s.raised = []) (result : WriteResult) : s.settingsWritten result = { s with
      settings := { s.settings with
        image := written result i s.settings.image, lastSave := if writeFailed result then .failed else .done
        writing := s.settings.queue.head?, queue := s.settings.queue.tail }
      raised := lossNotices .settings result } := by
  unfold State.settingsWritten lossNotices
  simp only [h, nextWrite_eq]
  split
  · rw [State.raise, hr]; rfl
  · rw [hr]

theorem settingsWritten_of_other {s : State} (h : ∀ i, s.settings.writing ≠ some (.settings i)) (result : WriteResult) :
    s.settingsWritten result = s := by
  unfold State.settingsWritten
  split
  · next i hi => exact absurd hi (h i)
  · rfl

theorem tallyWritten_of_writing {s : State} {t : TallyImage} (h : s.settings.writing = some (.tally t))
    (hr : s.raised = []) (result : WriteResult) : s.tallyWritten result = { s with
      settings := { s.settings with
        tallyImage := written result t s.settings.tallyImage
        writing := s.settings.queue.head?, queue := s.settings.queue.tail }
      raised := lossNotices .tally result } := by
  unfold State.tallyWritten lossNotices
  simp only [h, nextWrite_eq]
  split
  · rw [State.raise, hr]; rfl
  · rw [hr]

theorem tallyWritten_of_other {s : State} (h : ∀ t, s.settings.writing ≠ some (.tally t)) (result : WriteResult) :
    s.tallyWritten result = s := by
  unfold State.tallyWritten
  split
  · next t ht => exact absurd ht (h t)
  · rfl

/-! ### SAVE-SETTINGS and the ends of writes: the statement -/

/-- Settles O44: a save by the state of the serial memory, the end of a write by the write in flight, and the copy field
by field. -/
theorem savesAreWrittenInTurn : Obligations.SavesAreWrittenInTurn := by
  unfold Obligations.SavesAreWrittenInTurn
  refine ⟨⟨?save, ?ends⟩, fun s => rfl⟩
  case save =>
    intro s r settled passes
    simp only [exec_saveSettings]
    refine ⟨fun busy => ?_, fun idle => ?_⟩
    · exact localRequest_refused settled passes nofun _ (takeSaveSettings_of_saving busy)
    refine ⟨fun free => ?_, fun w busy => ?_⟩
    · refine localRequest_silent settled passes nofun _ ?_ settled rfl
      rw [takeSaveSettings_of_free (s := s.taken r) idle free, imageCopy_taken]
      rfl
    · refine localRequest_silent settled passes nofun _ ?_ settled rfl
      rw [takeSaveSettings_of_busy (s := s.taken r) idle busy, imageCopy_taken]
      rfl
  case ends =>
    intro s result settled on left failed
    have raised : s.raised = [] := settled.2.1
    simp only [exec_settingsWriteEnd, exec_tallyWriteEnd]
    refine ⟨fun i h => ?_, fun h => ?_, fun t h => ?_, fun h => ?_⟩
    · cases result <;> exact localEvent_done settled on _ (settingsWritten_of_writing h raised _) settled rfl
    · exact localEvent_quiet settled on _ (settingsWritten_of_other h result) settled rfl
    · cases result <;> exact localEvent_done settled on _ (tallyWritten_of_writing h raised _) settled rfl
    · exact localEvent_quiet settled on _ (tallyWritten_of_other h result) settled rfl

end Sys2Proof.Machine.CatchAndSaves
end

/-! Proofs about the species and factor tables and the quota states (R138 to R140, R146). -/
section

namespace Sys2Proof.Machine.CatchAndSaves

/-! ### Lists in order and tables -/

/-- An element goes in place of the first one that is the same, or before the first one behind it, and else to the end. -/
theorem insertion_placed {α : Type} {put : List α → List α} {x : α} {same behind : α → Prop} [DecidablePred same]
    [DecidablePred behind] (put_nil : put [] = [x])
    (put_cons : ∀ y rest, put (y :: rest) =
      if same y then x :: rest else if behind y then x :: y :: rest else y :: put rest)
    (l : List α) (passed : ∀ y ∈ l, ¬same y ∧ ¬behind y) :
    put l = l ++ [x] ∧
      ∀ y rest, (same y → put (l ++ y :: rest) = l ++ x :: rest) ∧
        (¬same y → behind y → put (l ++ y :: rest) = l ++ x :: y :: rest) := by
  induction l with
  | nil => exact ⟨put_nil, fun y rest => ⟨fun hs => by simp [put_cons, hs], fun hs hb => by simp [put_cons, hs, hb]⟩⟩
  | cons z l ih =>
    obtain ⟨notSame, notBehind⟩ := passed z (by simp)
    have past : ∀ m, put (z :: m) = z :: put m := fun m => by rw [put_cons, if_neg notSame, if_neg notBehind]
    obtain ⟨atEnd, within⟩ := ih fun y hy => passed y (by simp [hy])
    refine ⟨by rw [past, atEnd]; rfl, fun y rest => ⟨fun hs => ?_, fun hs hb => ?_⟩⟩
    · rw [List.cons_append, past, (within y rest).1 hs]; rfl
    · rw [List.cons_append, past, (within y rest).2 hs hb]; rfl

theorem codeBefore_iff (l m : List Byte) :
    codeBefore l m = true ↔ (l.map fun (b : Byte) => b.toNat) < m.map fun (b : Byte) => b.toNat := by
  induction l generalizing m with
  | nil => cases m <;> simp [codeBefore]
  | cons a l ih =>
    cases m with
    | nil => simp [codeBefore]
    | cons b m => simp [codeBefore, ih, List.cons_lt_cons_iff, BitVec.toNat_inj]

/-- An entry that meets a test is found where it is written, when no other entry is found by the test. -/
theorem find?_put {α : Type} {p : Nat × α → Bool} {t : Table α} {n : Nat} {v : α} (hv : p (n, v) = true)
    (only : ∀ e, t.find? p = some e → e.1 = n) : (t.put n v).find? p = some (n, v) := by
  induction t with
  | nil => simp [Table.put, hv]
  | cons e rest ih =>
    obtain ⟨m, w⟩ := e
    unfold Table.put
    split
    · simp [hv]
    split
    · simp [hv]
    next hm =>
      have fails : p (m, w) = false := by
        rw [← Bool.not_eq_true]
        exact fun hw => hm (only (m, w) (by simp [hw])).symm
      rw [List.find?_cons_of_neg (by simp [fails])]
      exact ih fun e he => only e (by rw [List.find?_cons_of_neg (by simp [fails]), he])

theorem put_put {α : Type} (t : Table α) (n : Nat) (v w : α) : (t.put n v).put n w = t.put n w := by
  induction t with
  | nil => simp [Table.put]
  | cons e rest ih =>
    obtain ⟨m, u⟩ := e
    by_cases h1 : n < m
    · simp [Table.put, h1]
    by_cases h2 : n = m
    · simp [Table.put, h2]
    · simp [Table.put, h1, h2, ih]

/-! ### Quota states (R146) -/

/-- The state rises to REACHED, which has not been told yet (R146). -/
abbrev Reaches (sp : Species) (target : QuotaState) : Prop :=
  sp.state ≠ .reached ∧ target = .reached ∧ sp.reachedRaised = false

/-- The state rises from NONE to NEAR, which has not been told yet (R146). -/
abbrev Nears (sp : Species) (target : QuotaState) : Prop :=
  sp.state = .none ∧ target = .near ∧ sp.nearRaised = false

section
variable {sp : Species} {sum : Nat}

theorem evaluate_of_reaches (h : Reaches sp (quotaTarget sp.cfg.quota sum)) (haul : Option Nat) : sp.evaluate sum haul =
    ({ sp with state := .reached, nearRaised := true, reachedRaised := true },
      [.quotaReached sp.cfg.code sum sp.cfg.quota haul]) := by
  obtain ⟨hs, ht, hr⟩ := h
  cases state : sp.state with
  | reached => exact absurd state hs
  | none => simp [Species.evaluate, ht, state, hr]
  | near => simp [Species.evaluate, ht, state, hr]

theorem evaluate_of_nears (h : Nears sp (quotaTarget sp.cfg.quota sum)) (haul : Option Nat) : sp.evaluate sum haul =
    ({ sp with state := .near, nearRaised := true }, [.quotaNear sp.cfg.code sum sp.cfg.quota haul]) := by
  obtain ⟨hs, ht, hn⟩ := h
  simp [Species.evaluate, ht, hs, hn]

theorem evaluate_of_silent (hr : ¬Reaches sp (quotaTarget sp.cfg.quota sum))
    (hn : ¬Nears sp (quotaTarget sp.cfg.quota sum)) (haul : Option Nat) :
    sp.evaluate sum haul = ({ sp with state := quotaTarget sp.cfg.quota sum }, []) := by
  unfold Species.evaluate
  dsimp only
  split
  · next hs ht => rw [if_pos (by simpa [Reaches, hs, ht] using hr), ht]
  · next hs ht => rw [if_pos (by simpa [Reaches, hs, ht] using hr), ht]
  · next hs ht => rw [if_pos (by simpa [Nears, hs, ht] using hn), ht]
  · rfl

end

theorem evaluate_eq (sp : Species) (sum : Nat) (haul : Option Nat) {target : QuotaState}
    (ht : quotaTarget sp.cfg.quota sum = target) : sp.evaluate sum haul =
      ({ sp with
          state := target, nearRaised := sp.nearRaised || decide (Reaches sp target ∨ Nears sp target)
          reachedRaised := sp.reachedRaised || decide (Reaches sp target) },
        if Reaches sp target then [.quotaReached sp.cfg.code sum sp.cfg.quota haul]
        else if Nears sp target then [.quotaNear sp.cfg.code sum sp.cfg.quota haul] else []) := by
  subst ht
  by_cases hr : Reaches sp (quotaTarget sp.cfg.quota sum)
  · rw [evaluate_of_reaches hr, if_pos hr, decide_eq_true hr, decide_eq_true (Or.inl hr), hr.2.1]
    simp
  by_cases hn : Nears sp (quotaTarget sp.cfg.quota sum)
  · rw [evaluate_of_nears hn, if_neg hr, if_pos hn, decide_eq_false hr, decide_eq_true (Or.inr hn), hn.2.1]
    simp
  · rw [evaluate_of_silent hr hn, if_neg hr, if_neg hn, decide_eq_false hr, decide_eq_false (not_or.2 ⟨hr, hn⟩)]
    simp

theorem foldl_raise (l : List Notice) (s : State) : l.foldl State.raise s = { s with raised := s.raised ++ l } := by
  induction l generalizing s with
  | nil => simp
  | cons n l ih => rw [List.foldl_cons, ih, State.raise, List.append_assoc]; rfl

theorem evaluateSpecies_of_loaded {s : State} {code : List Byte} {n : Nat} {sp : Species}
    (h : s.speciesOf code = some (n, sp)) (haul : Option Nat) : s.evaluateSpecies code haul = { s with
      catch_.species := s.catch_.species.put n (sp.evaluate (s.tripSum code) haul).1
      raised := s.raised ++ (sp.evaluate (s.tripSum code) haul).2 } := by
  unfold State.evaluateSpecies
  simp only [h, foldl_raise]

/-! ### SPECIES requests (R139) -/

section
variable {s : State} {entry : Nat} {given code : List Byte}

theorem renameBarred_iff : s.renameBarred entry code = true ↔
    ∃ sp, s.catch_.species.find entry = some sp ∧ sp.cfg.code ≠ code ∧ s.catch_.names sp.cfg.code = true := by
  simp [State.renameBarred, Option.any_eq_true]

theorem takeSpeciesSet_of_bad (h : entry = 0 ∨ 32 < entry ∨ codeOf given = none) (quota : Nat) :
    s.takeSpeciesSet entry given quota = (s, plain .badArgument) := by
  unfold State.takeSpeciesSet
  split
  · rfl
  next outside =>
    have noCode : codeOf given = none := by
      rcases h with h | h | h
      · exact absurd (.inl h) outside
      · exact absurd (.inr h) outside
      · exact h
    rw [noCode]

/-- With an entry number and a code, the checks of R139 in their order. -/
theorem takeSpeciesSet_of_code (h1 : 1 ≤ entry) (h32 : entry ≤ 32) (hc : codeOf given = some code) (quota : Nat) :
    s.takeSpeciesSet entry given quota =
      if (s.speciesOf code).any (·.1 != entry) then (s, plain .badArgument)
      else if s.renameBarred entry code then (s, plain .inUse)
      else if 99999999 < quota then (s, plain .badArgument)
      else
        ({ s with
          catch_.species := s.catch_.species.put entry
            (Species.rewritten { code, quota } (s.catch_.species.find entry)) }.evaluateSpecies code none, plain .ok) := by
  have inside : ¬(entry = 0 ∨ Config.speciesEntries < entry) := by
    rintro (h | h)
    · omega
    · exact absurd h32 (Nat.not_le.2 h)
  rw [State.takeSpeciesSet, if_neg inside, hc]
  rfl

theorem rewritten_eq (cfg : SpeciesCfg) (old : Option Species) : Species.rewritten cfg old =
    { cfg
      state := (old.filter fun sp => sp.cfg.code = cfg.code).elim .none (·.state)
      nearRaised := (old.filter fun sp => sp.cfg.code = cfg.code).any (·.nearRaised)
      reachedRaised := (old.filter fun sp => sp.cfg.code = cfg.code).any (·.reachedRaised) } := by
  cases old with
  | none => rfl
  | some sp => by_cases h : sp.cfg.code = cfg.code <;> simp [Species.rewritten, Option.filter, h]

/-- The entry just written is the one that its quota state is worked out for. -/
theorem evaluateSpecies_written {sp : Species} (hc : sp.cfg.code = code)
    (other : (s.speciesOf code).any (·.1 != entry) = false) :
    ({ s with catch_.species := s.catch_.species.put entry sp } : State).evaluateSpecies code none = { s with
      catch_.species := s.catch_.species.put entry (sp.evaluate (s.tripSum code) none).1
      raised := s.raised ++ (sp.evaluate (s.tripSum code) none).2 } := by
  have found : ({ s with catch_.species := s.catch_.species.put entry sp } : State).speciesOf code = some (entry, sp) := by
    refine find?_put (by simp [hc]) fun e he => ?_
    have held : s.speciesOf code = some e := he
    simpa [held] using other
  rw [evaluateSpecies_of_loaded found]
  simp only [put_put]
  rfl

/-- With every check of R139 passed, the entry is written and its quota state worked out. -/
theorem takeSpeciesSet_written {quota : Nat} (h1 : 1 ≤ entry) (h32 : entry ≤ 32) (hc : codeOf given = some code)
    (other : (s.speciesOf code).any (·.1 != entry) = false) (free : ¬s.renameBarred entry code = true)
    (hq : quota ≤ 99999999) (hr : s.raised = []) {sp : Species}
    (hsp : Species.rewritten { code, quota } (s.catch_.species.find entry) = sp) :
    s.takeSpeciesSet entry given quota = ({ s with
      catch_.species := s.catch_.species.put entry (sp.evaluate (s.tripSum code) none).1
      raised := (sp.evaluate (s.tripSum code) none).2 }, plain .ok) := by
  have named : sp.cfg.code = code := by rw [← hsp, rewritten_eq]
  rw [takeSpeciesSet_of_code h1 h32 hc, if_neg (ne_true_of_eq_false other), if_neg free, if_neg (Nat.not_lt.2 hq), hsp,
    evaluateSpecies_written named other, hr]
  rfl

theorem takeSpeciesClear_of_empty (h : s.catch_.species.find entry = none) :
    s.takeSpeciesClear entry = (s, plain .notFound) := by
  rw [State.takeSpeciesClear, h]

theorem takeSpeciesClear_of_loaded {sp : Species} (h : s.catch_.species.find entry = some sp) :
    s.takeSpeciesClear entry = if s.catch_.names sp.cfg.code then (s, plain .inUse)
      else ({ s with catch_.species := s.catch_.species.del entry }, plain .ok) := by
  rw [State.takeSpeciesClear, h]

end

/-! ### FACTOR requests (R140) -/

theorem factor_before_iff (f g : Factor) : f.before g = true ↔
    (f.code.map fun (b : Byte) => b.toNat) < (g.code.map fun (b : Byte) => b.toNat) ∨
      (f.code = g.code ∧ f.form.code < g.form.code) := by
  simp [Factor.before, codeBefore_iff]

section
variable {s : State} {code : List Byte} {form factor : Nat} {fm : Form}

theorem takeFactorSet_of_bad (h : Form.ofCode form = none ∨ factor < 1000 ∨ 9999 < factor) :
    s.takeFactorSet code form factor = (s, plain .badArgument) := by
  unfold State.takeFactorSet
  split
  · rfl
  next fm hf =>
    refine if_pos (h.resolve_left ?_)
    simp [hf]

/-- With a form and a factor in range, the checks of R140 in their order. -/
theorem takeFactorSet_of_form (hf : Form.ofCode form = some fm) (low : 1000 ≤ factor) (high : factor ≤ 9999) :
    s.takeFactorSet code form factor =
      if s.speciesOf code = none then (s, plain .notFound)
      else if s.factorOf code fm = none ∧ 96 ≤ s.catch_.factors.length then (s, plain .tableFull)
      else ({ s with catch_.factors := putFactor ⟨code, fm, factor⟩ s.catch_.factors }, plain .ok) := by
  rw [State.takeFactorSet, hf]
  simp only [if_neg (show ¬(factor < 1000 ∨ 9999 < factor) by omega), Option.isNone_iff_eq_none, Config.factorEntries]

theorem takeFactorClear_of_missing (h : (Form.ofCode form).bind (fun fm => s.factorOf code fm) = none) :
    s.takeFactorClear code form = (s, plain .notFound) := by
  unfold State.takeFactorClear
  split
  · rfl
  next fm hf =>
    rw [hf, Option.bind_some] at h
    rw [if_pos (by simp [h])]

theorem takeFactorClear_of_held (h : (Form.ofCode form).bind (fun fm => s.factorOf code fm) ≠ none) :
    s.takeFactorClear code form = ({ s with
      catch_.factors := s.catch_.factors.filter fun (f : Factor) =>
        decide (¬(f.code = code ∧ some f.form = Form.ofCode form)) }, plain .ok) := by
  unfold State.takeFactorClear
  split
  · next hf => simp [hf] at h
  next fm hf =>
    rw [hf, Option.bind_some] at h
    have kept : (fun f : Factor => f.code != code || f.form != fm) =
        fun f => decide (¬(f.code = code ∧ some f.form = Form.ofCode form)) := by
      funext f
      rw [hf, Bool.eq_iff_iff]
      simp only [Bool.or_eq_true, bne_iff_ne, ne_eq, Option.some.injEq, decide_eq_true_eq, Decidable.not_and_iff_not_or_not]
    rw [if_neg (by simp [h]), kept]

end

/-! ### Species, factors and quotas: the statement -/

/-- Settles O30: the requests by their checks, the quota state by the notice that its rise raises, and the place of a
factor among those before it. -/
theorem speciesFactorsAndQuota : Obligations.SpeciesFactorsAndQuota := by
  unfold Obligations.SpeciesFactorsAndQuota
  refine ⟨⟨?requests, ?quota⟩, ?factors⟩
  case requests =>
    intro s r settled
    have raised : (s.taken r).raised = [] := settled.2.1
    simp only [exec_speciesSet, exec_speciesClear, exec_factorSet, exec_factorClear]
    refine ⟨?speciesSet, ?speciesClear, ?factorSet, ?factorClear⟩
    case speciesSet =>
      intro passes entry given quota
      refine ⟨fun bad => localRequest_refused settled passes nofun _ (takeSpeciesSet_of_bad bad quota), ?_⟩
      intro code h1 h32 hc
      have chain := takeSpeciesSet_of_code (s := s.taken r) h1 h32 hc quota
      have barred_iff := renameBarred_iff (s := s.taken r) (entry := entry) (code := code)
      refine ⟨fun ho => ?_, fun ho hb => ?_, fun ho hb hq => ?_, fun ho hb hq => ?_⟩
      · exact localRequest_refused settled passes nofun _ (chain.trans (if_pos ho))
      all_goals replace chain := chain.trans (if_neg (ne_true_of_eq_false ho))
      · exact localRequest_refused settled passes nofun _ (chain.trans (if_pos (barred_iff.2 hb)))
      all_goals have free := mt barred_iff.1 hb
      · exact localRequest_refused settled passes nofun _ (chain.trans ((if_neg free).trans (if_pos hq)))
      · exact localRequest_next settled passes nofun _
          (takeSpeciesSet_written (s := s.taken r) h1 h32 hc ho free hq raised (rewritten_eq _ _)) settled rfl
    case speciesClear =>
      intro passes entry
      refine ⟨fun empty => localRequest_refused settled passes nofun _ (takeSpeciesClear_of_empty empty), ?_⟩
      intro sp loaded
      have chain := takeSpeciesClear_of_loaded (s := s.taken r) loaded
      refine ⟨fun named => ?_, fun free => ?_⟩
      · exact localRequest_refused settled passes nofun _ (chain.trans (if_pos named))
      · exact localRequest_silent settled passes nofun _ (chain.trans (if_neg (ne_true_of_eq_false free))) settled rfl
    case factorSet =>
      intro passes code form factor
      refine ⟨fun bad => localRequest_refused settled passes nofun _ (takeFactorSet_of_bad bad), ?_⟩
      intro fm hf low high
      have chain := takeFactorSet_of_form (s := s.taken r) (code := code) hf low high
      refine ⟨fun unknown => ?_, fun loaded pair full => ?_, fun loaded room => ?_⟩
      · exact localRequest_refused settled passes nofun _ (chain.trans (if_pos unknown))
      all_goals replace chain := chain.trans (if_neg loaded)
      · exact localRequest_refused settled passes nofun _ (chain.trans (if_pos ⟨pair, full⟩))
      · have fits : ¬(s.factorOf code fm = none ∧ 96 ≤ s.catch_.factors.length) := by
          rintro ⟨missing, full⟩
          exact room.elim (fun held => held missing) (Nat.not_lt.2 full)
        exact localRequest_silent settled passes nofun _ (chain.trans (if_neg fits)) settled rfl
    case factorClear =>
      intro passes code form
      refine ⟨fun missing => ?_, fun loaded => ?_⟩
      · exact localRequest_refused settled passes nofun _ (takeFactorClear_of_missing missing)
      · exact localRequest_silent settled passes nofun _ (takeFactorClear_of_held loaded) settled rfl
  case quota => exact fun sp sum haul => evaluate_eq sp sum haul rfl
  case factors =>
    intro f l letters same behind
    exact insertion_placed (put := putFactor f) (same := same) (behind := behind) rfl
      (fun g rest => ite_congr rfl (fun _ => rfl) fun _ =>
        ite_congr (propext (factor_before_iff f g)) (fun _ => rfl) fun _ => rfl) l

end Sys2Proof.Machine.CatchAndSaves
end

/-! Proofs about POST-CATCH (R141 to R145). -/
section

namespace Sys2Proof.Machine.CatchAndSaves

/-! ### The checks of a posting (R142) -/

/-- Haul, weight, form and kind are in range (R142 check 1). -/
abbrev PostingRanged (haul form w kind : Nat) : Prop :=
  1 ≤ haul ∧ haul ≤ 65535 ∧ w ≤ 999999 ∧ Form.ofCode form ≠ none ∧ kind ≤ 1

section
variable {s : State} {haul form w kind : Nat} {code : List Byte} {fm : Form} {p : Posting}

theorem landingOfCode_eq (h : kind ≤ 1) : landingOfCode kind = some (decide (kind = 0)) := by
  obtain rfl | rfl : kind = 0 ∨ kind = 1 := by omega
  · rfl
  · rfl

theorem landingOfCode_none (h : 1 < kind) : landingOfCode kind = none := by
  obtain ⟨k, rfl⟩ := Nat.exists_eq_add_of_le' h
  rfl

theorem postingOf_of_ranged (h : PostingRanged haul form w kind) (hf : Form.ofCode form = some fm) (code : List Byte) :
    postingOf haul code form w kind = some { haul, code, form := fm, weight := w, landing := decide (kind = 0) } := by
  obtain ⟨haul1, haul2, weight, -, kind1⟩ := h
  unfold postingOf
  rw [hf, landingOfCode_eq kind1]
  exact if_pos ⟨haul1, haul2, weight⟩

theorem postingOf_of_unranged (h : ¬PostingRanged haul form w kind) (code : List Byte) :
    postingOf haul code form w kind = none := by
  unfold postingOf
  split
  · next fm landing hf hk =>
      have kind1 : kind ≤ 1 := by
        refine Nat.le_of_not_lt fun big => ?_
        rw [landingOfCode_none big] at hk
        cases hk
      exact if_neg fun ⟨haul1, haul2, weight⟩ => h ⟨haul1, haul2, weight, by simp [hf], kind1⟩
  · rfl

theorem takePosting_of_unranged (h : ¬PostingRanged haul form w kind) :
    s.takePosting haul code form w kind = (s, plain .badArgument) := by
  rw [State.takePosting, postingOf_of_unranged h]

theorem takePosting_of_unknown (hp : postingOf haul code form w kind = some p) (h : s.speciesOf code = none) :
    s.takePosting haul code form w kind = (s, plain .notFound) := by
  simp only [State.takePosting, hp, h, Option.isNone_none, if_true]

theorem takePosting_of_refused {c : Code} (hp : postingOf haul code form w kind = some p) (h : s.speciesOf code ≠ none)
    (refused : s.postingRow p = .error c) : s.takePosting haul code form w kind = (s, plain c) := by
  simp only [State.takePosting, hp, Option.isNone_iff_eq_none, h, if_false, refused]

theorem takePosting_of_row {row : Row} (hp : postingOf haul code form w kind = some p) (h : s.speciesOf code ≠ none)
    (found : s.postingRow p = .ok row) : s.takePosting haul code form w kind = s.applyPosting p row := by
  simp only [State.takePosting, hp, Option.isNone_iff_eq_none, h, if_false, found]

/-! ### The row of a posting (R144) -/

theorem postingRow_of_correction (h : s.row p.code s.primaryArea = none) (hl : p.landing = false) :
    s.postingRow p = .error .notFound := by
  simp [State.postingRow, h, hl]

theorem postingRow_of_full (h : s.row p.code s.primaryArea = none) (hl : p.landing = true)
    (full : 64 ≤ s.catch_.rows.length) : s.postingRow p = .error .tableFull := by
  simp [State.postingRow, h, hl, Config.tallyRows, full]

theorem postingRow_of_room
    (room : s.row p.code s.primaryArea ≠ none ∨ (p.landing = true ∧ s.catch_.rows.length < 64)) :
    s.postingRow p = .ok ((s.row p.code s.primaryArea).getD
      { code := p.code, area := s.primaryArea, day := 0, trip := 0, unconverted := false }) := by
  unfold State.postingRow
  cases held : s.row p.code s.primaryArea with
  | some row => rfl
  | none =>
    obtain ⟨hl, space⟩ := room.resolve_left (not_not_intro held)
    simp [hl, Config.tallyRows, Nat.not_le.2 space]

/-- The row held for an area, or else a new one made for it, stands under that area (R144). -/
theorem row_getD_area (s : State) (code : List Byte) (area : Nat) (d t : Nat) (u : Bool) :
    ((s.row code area).getD { code, area, day := d, trip := t, unconverted := u }).area = area := by
  cases held : s.row code area with
  | none => rfl
  | some row =>
    have found := List.find?_some held
    simp only [Bool.and_eq_true, beq_iff_eq] at found
    exact found.2

end

/-! ### A posting moves its row (R143, R145, R146) -/

/-- A row moved by `l` kilograms, up for a landing and down for a correction, and marked when no factor was held. -/
abbrev movedRow (landing : Prop) [Decidable landing] (l : Nat) (unconverted : Bool) (old : Row) : Row :=
  { old with
    day := if landing then min (old.day + l) 99999999 else old.day - l
    trip := if landing then min (old.trip + l) 99999999 else old.trip - l
    unconverted := old.unconverted || unconverted }

/-- The trip sum of a species over some rows (R146). -/
abbrev tripSumOf (code : List Byte) (rows : List Row) : Nat :=
  ((rows.filter fun (q : Row) => q.code == code).map (·.trip)).sum

theorem saturates_eq (l : Nat) (row : Row) :
    row.saturates l = decide (99999999 < row.day + l ∨ 99999999 < row.trip + l) := (Bool.decide_or _ _).symm

theorem clamps_eq (l : Nat) (row : Row) : row.clamps l = decide (row.day < l ∨ row.trip < l) := (Bool.decide_or _ _).symm

theorem moved_eq {landing : Prop} [Decidable landing] {b : Bool} (hb : b = decide landing) (l : Nat) (unconverted : Bool)
    (old : Row) : ({ (if b then old.land l else old.correct l) with
      unconverted := old.unconverted || unconverted } : Row) = movedRow landing l unconverted old := by
  subst hb
  by_cases h : landing <;> simp [h, Row.land, Row.correct, Config.mostKilograms]

/-- What a posting comes to, by its factor, its live weight, the row moved and the state left. -/
theorem applyPosting_of {s left : State} {p : Posting} {old row : Row} {factor : Option Nat} {l : Nat}
    (hfactor : s.factorOf p.code p.form = factor) (hlive : liveWeight p.weight (factor.getD 1000) = l)
    (hrow : ({ (if p.landing then old.land l else old.correct l) with
      unconverted := old.unconverted || factor.isNone } : Row) = row)
    (hleft : ({ s with catch_.rows := putRow row s.catch_.rows } : State).evaluateSpecies p.code (some p.haul) = left) :
    s.applyPosting p old =
      (left, ⟨if (p.landing && old.saturates l) || (!p.landing && old.clamps l) then .partly else .ok,
        .posted p.haul (factor.getD 1000) l row.area row.day row.trip (left.tripSum p.code)
          ((left.speciesOf p.code).elim .none (·.2.state)) factor.isNone (p.landing && old.saturates l)
          (!p.landing && old.clamps l)⟩) := by
  subst hfactor hlive hrow hleft
  rfl

theorem applyPosting_eq {s : State} {p : Posting} {n : Nat} {sp : Species} {factor : Option Nat} {l sum : Nat}
    {old row : Row} {landing : Prop} [Decidable landing] (loaded : s.speciesOf p.code = some (n, sp)) (hr : s.raised = [])
    (hl : p.landing = decide landing) (hfactor : s.factorOf p.code p.form = factor)
    (hlive : liveWeight p.weight (factor.getD 1000) = l) (hrow : movedRow landing l factor.isNone old = row)
    (hsum : tripSumOf p.code (putRow row s.catch_.rows) = sum) :
    let species := s.catch_.species.put n (sp.evaluate sum (some p.haul)).1
    let saturated := decide (landing ∧ (99999999 < old.day + l ∨ 99999999 < old.trip + l))
    let clamped := decide (¬landing ∧ (old.day < l ∨ old.trip < l))
    s.applyPosting p old = ({ s with
      catch_.rows := putRow row s.catch_.rows
      catch_.species := species
      raised := (sp.evaluate sum (some p.haul)).2 },
      ⟨if saturated || clamped then .partly else .ok,
        .posted p.haul (factor.getD 1000) l row.area row.day row.trip sum
          ((species.find? fun (e : Nat × Species) => e.2.cfg.code == p.code).elim .none (·.2.state))
          factor.isNone saturated clamped⟩) := by
  intro species saturated clamped
  have hsat : (p.landing && old.saturates l) = saturated := by rw [hl, saturates_eq, ← Bool.decide_and]
  have hclamp : (!p.landing && old.clamps l) = clamped := by rw [hl, clamps_eq, ← decide_not, ← Bool.decide_and]
  have left : ({ s with catch_.rows := putRow row s.catch_.rows } : State).evaluateSpecies p.code (some p.haul) = { s with
      catch_.rows := putRow row s.catch_.rows
      catch_.species := species
      raised := (sp.evaluate sum (some p.haul)).2 } := by
    subst hsum
    rw [evaluateSpecies_of_loaded (s := { s with catch_.rows := putRow row s.catch_.rows }) loaded, hr]
    rfl
  rw [applyPosting_of hfactor hlive ((moved_eq hl l factor.isNone old).trans hrow) left, hsat, hclamp]
  subst hsum
  rfl

/-! ### The place of a row (R141) -/

theorem row_before_iff (r q : Row) : r.before q = true ↔
    (r.code.map fun (b : Byte) => b.toNat) < (q.code.map fun (b : Byte) => b.toNat) ∨
      (r.code = q.code ∧ r.area < q.area) := by
  simp [Row.before, codeBefore_iff]

/-! ### POST-CATCH: the statement -/

/-- Settles O31: the refusals in the order of the checks, the row moved and the quota state worked out, and the place of
a row among those before it. -/
theorem postCatchMovesRow : Obligations.PostCatchMovesRow := by
  unfold Obligations.PostCatchMovesRow
  refine ⟨?posting, ?rows⟩
  case posting =>
    intro s r haul code form w kind settled passes c ranged area held
    have raised : (s.taken r).raised = [] := settled.2.1
    have posting (h : ranged) : ∃ fm, Form.ofCode form = some fm ∧
        postingOf haul code form w kind = some { haul, code, form := fm, weight := w, landing := decide (kind = 0) } := by
      have ⟨_, _, _, hf, _⟩ := h
      obtain ⟨fm, hf⟩ := Option.ne_none_iff_exists'.1 hf
      exact ⟨fm, hf, postingOf_of_ranged h hf code⟩
    have refused {a : Answer} (h : (s.taken r).takePosting haul code form w kind = (s.taken r, a)) :
        exec c s = .next (s.answered .postCatch r a []) :=
      (exec_postCatch r haul code form w kind s).trans (localRequest_refused settled passes nofun _ h)
    refine ⟨fun h => refused (takePosting_of_unranged h), fun h unknown => ?_, fun h loaded hn hk => ?_,
      fun h loaded hn hk full => ?_, fun fm n sp h hf loaded room => ?_⟩
    · obtain ⟨fm, -, hp⟩ := posting h
      exact refused (takePosting_of_unknown hp unknown)
    · obtain ⟨fm, -, hp⟩ := posting h
      exact refused (takePosting_of_refused hp loaded (postingRow_of_correction hn (by simp [hk])))
    · obtain ⟨fm, -, hp⟩ := posting h
      exact refused (takePosting_of_refused hp loaded (postingRow_of_full hn (by simp [hk]) full))
    · intro factor f l old row rows sum saturated clamped
      have notLanding : decide (¬kind = 0 ∧ (old.day < l ∨ old.trip < l)) = clamped := by
        have ⟨_, _, _, _, hk⟩ := h
        exact decide_eq_decide.2 (and_congr_left' (by omega))
      have inArea : row.area = area := row_getD_area s code area 0 0 false
      have known : (s.taken r).speciesOf code ≠ none := Option.ne_none_iff_exists'.2 ⟨_, loaded⟩
      have taken := (takePosting_of_row (s := s.taken r) (postingOf_of_ranged h hf code) known
        (postingRow_of_room (room.imp_right fun hl => ⟨decide_eq_true hl.1, hl.2⟩))).trans
        (applyPosting_eq (landing := kind = 0) (factor := factor) (l := l) (old := old) (row := row) (sum := sum) loaded
          raised rfl rfl rfl rfl rfl)
      rw [notLanding, inArea] at taken
      exact (exec_postCatch r haul code form w kind s).trans
        (localRequest_next settled passes nofun _ taken settled rfl)
  case rows =>
    intro q l letters same behind
    exact insertion_placed (put := putRow q) (same := same) (behind := behind) rfl
      (fun g rest => ite_congr rfl (fun _ => rfl) fun _ =>
        ite_congr (propext (row_before_iff q g)) (fun _ => rfl) fun _ => rfl) l

end Sys2Proof.Machine.CatchAndSaves
end

/-! Proofs about the triggers of catch reports, their course and their text (R149 to R157). -/
section

namespace Sys2Proof.Machine.CatchAndSaves

/-! ### The text of a report (R151) -/

theorem decimal_eq (k n : Nat) :
    decimal k n = (List.range k).map fun i => BitVec.ofNat 8 (48 + n / 10 ^ (k - 1 - i) % 10) := by
  induction k generalizing n with
  | zero => rfl
  | succ k ih =>
    rw [decimal, ih, List.range_succ, List.map_append]
    congr 1
    · refine List.map_congr_left fun i hi => ?_
      have places : k + 1 - 1 - i = (k - 1 - i) + 1 := by have := List.mem_range.1 hi; omega
      rw [places, Nat.pow_succ', Nat.div_div_eq_div_mul]
    · simp

theorem reportSpan_eq (s : State) : s.reportSpan =
    { fromDay := (s.catch_.spanStart.filter fun d => decide (d ≤ s.time.now.toNat / 86400)).getD (s.time.now.toNat / 86400)
      toDay := s.time.now.toNat / 86400 } := by
  unfold State.reportSpan dayOf
  cases s.catch_.spanStart with
  | none => rfl
  | some d => by_cases h : d ≤ s.time.now.toNat / 86400 <;> simp [Option.filter, h]

theorem line_eq (q : Row) : q.line = q.code ++ [0x20] ++ decimal 2 q.area ++ [0x20] ++ decimal 8 q.day ++ [0x20] ++
    decimal 8 q.trip ++ (if q.unconverted then [0x20, 0x55] else []) ++ [0x0D, 0x0A] := rfl

theorem reportText_eq (s : State) (span : Span) : s.reportText span =
    [0x43, 0x41, 0x54, 0x43, 0x48, 0x20] ++ decimal 7 s.settings.identity.number ++ [0x20] ++ decimal 5 span.fromDay ++
      [0x20] ++ decimal 5 span.toDay ++ [0x0D, 0x0A] ++
      ((s.catch_.rows.filter fun (q : Row) => decide (q.trip ≠ 0)).map Row.line).flatten := by
  have rows : (fun q : Row => q.trip != 0) = fun q => decide (q.trip ≠ 0) := by
    funext q
    rw [Bool.eq_iff_iff]
    simp
  unfold State.reportText
  rw [rows]
  rfl

/-! ### The course of a trigger (R149 to R154) -/

section
variable {s : State} {t : Trigger} {station : Nat}

theorem trigger_of_no_authority (h : s.authority = none) (t : Trigger) : s.trigger t =
    ({ s with
      raised := s.raised ++ [.noAuthority t]
      catch_.deferral := if t = .retry then none else s.catch_.deferral }, .noAuthority) := by
  unfold State.trigger
  rw [h]
  by_cases ht : t = .retry
  · simp only [if_pos ht]
    rfl
  · simp only [if_neg ht]
    rfl

theorem trigger_of_pending (h : s.authority = some station) (ht : t = .poll ∨ t = .now) (hp : s.pendingReports ≠ []) :
    s.trigger t = ((s.pendingReports.foldl State.pollPending s).post .dueTest,
      .pendingReports (s.pendingReports.map s.pendingCourse)) := by
  unfold State.trigger
  rw [h]
  exact if_pos ⟨ht, hp⟩

theorem trigger_of_composing (h : s.authority = some station) (ht : (t = .daily ∨ t = .retry) ∨ s.pendingReports = []) :
    s.trigger t = s.compose t station := by
  have composes : ¬((t = .poll ∨ t = .now) ∧ s.pendingReports ≠ []) := by
    rintro ⟨rfl | rfl, hp⟩ <;> simp [hp] at ht
  unfold State.trigger
  rw [h]
  exact if_neg composes

/-- What is said of a pending report: nothing of one that was DELIVERED, and else its state (R157). -/
theorem pendingCourse_eq (s : State) (n : Nat) : s.pendingCourse n =
    (n, (s.record n).bind fun m => if m.state = .delivered then none else some m.state) := by
  unfold State.pendingCourse
  cases s.record n with
  | none => rfl
  | some m => by_cases h : m.state = .delivered <;> simp [Option.filter, h]

/-- The record that a composition for a station allocates (R151). -/
abbrev reportRecord (s : State) (station : Nat) : MsgRec :=
  { cls := .report, dir := .outbound, prec := .report, state := .queued, orig := .composer, peer := station
    peerRef := none, created := s.time.now, textLen := (s.reportText s.reportSpan).length
    text := s.reportText s.reportSpan, pages := [], attempts := 0, readMask := ⟨false, false, false⟩, keep := false
    withdrawPending := false, delivered := none, identity := none, span := some s.reportSpan, errFig := none }

theorem compose_of_allocated {n : Nat} {u : State} (h : s.allocText .reserve (reportRecord s station) = (some n, u))
    (t : Trigger) : s.compose t station = (u.reported s.reportSpan, .composed n s.reportSpan) := by
  simp only [State.compose, MsgRec.new, h]

theorem compose_of_refused {u : State} (h : s.allocText .reserve (reportRecord s station) = (none, u))
    (t : Trigger) : s.compose t station = (u.defer t, .deferred) := by
  simp only [State.compose, MsgRec.new, h]

theorem defer_eq (u : State) (t : Trigger) : u.defer t = { u with
    catch_.deferral := if u.catch_.deferral = none ∨ t = .retry then some (u.time.now + 600#32) else u.catch_.deferral
    raised := if u.catch_.deferral = none then u.raised ++ [.reportDeferred t u.catch_.spanStart] else u.raised } := by
  unfold State.defer
  split
  · next h =>
      simp only [h, true_or, if_true]
      rfl
  · next target h =>
      have held : u.catch_.deferral ≠ none := by simp [h]
      by_cases ht : t = .retry
      · simp only [ht, held, or_true, if_true, if_false]
        rfl
      · simp only [ht, held, or_self, if_false]

end

/-! ### The events that give triggers (R149, R154, R155) -/

section
variable {s : State}

theorem calendarDue_eq_false_of_unset {source : ClockSource} (h : source = .unset) (now : Time) (minute : Nat)
    (taken : Option Int) : calendarDue source now minute taken = false := by
  subst h
  rfl

theorem calendarDue_some (source : ClockSource) (now : Time) (minute : Nat) (day : Int) :
    calendarDue source now minute (some day) = true ↔ source ≠ .unset ∧ day < latestDay now minute := by
  simp [calendarDue]

/-- At the next occurrence of a calendar entry the day of the occurrence is behind the last-taken day (R43). -/
theorem lt_latestDay_of_next {day : Int} {minute : Nat} {target : Time}
    (h : (target.toNat : Int) = (day + 1) * 86400 + minute * 60) : day < latestDay target minute := by
  unfold latestDay secondOfDay dayOf
  split <;> omega

theorem reportDue_of_due (h : calendarDue s.time.source s.time.now s.catch_.reportTime s.catch_.reportTaken = true) :
    s.reportDue =
      (({ s with catch_.reportTaken := some (latestDay s.time.now s.catch_.reportTime) } : State).trigger .daily).1 :=
  if_pos h

theorem reportDue_of_not_due
    (h : calendarDue s.time.source s.time.now s.catch_.reportTime s.catch_.reportTaken = false) : s.reportDue = s :=
  if_neg (ne_true_of_eq_false h)

theorem waitCalendar_of_no_wait {minute : Nat} {taken : Option Int}
    (h : s.time.source = .unset ∨ calendarDue s.time.source s.time.now minute taken = true) :
    s.waitCalendar minute taken = s := if_pos (by simpa using h)

/-- An entry taken already waits for its next occurrence, if the clock reaches it before it wraps (R43; log entry 1). -/
theorem waitCalendar_of_taken {minute : Nat} {day : Int} (set : s.time.source ≠ .unset)
    (behind : latestDay s.time.now minute ≤ day) : s.waitCalendar minute (some day) =
      if 0 ≤ (day + 1) * 86400 + minute * 60 ∧ (day + 1) * 86400 + minute * 60 < 2 ^ 32 then
        { s with time.now := BitVec.ofInt 32 ((day + 1) * 86400 + minute * 60) }
      else s := by
  have ahead : ¬(s.time.source == .unset || calendarDue s.time.source s.time.now minute (some day)) = true := by
    simp [calendarDue, set, behind]
  unfold State.waitCalendar calendarNext
  rw [if_neg ahead]
  simp only [Int.max_eq_left behind]
  by_cases h : 0 ≤ (day + 1) * 86400 + minute * 60 ∧ (day + 1) * 86400 + minute * 60 < 2 ^ 32
  · simp only [if_pos h]
  · simp only [if_neg h]

theorem toNat_ofInt_of_range {i : Int} (h : 0 ≤ i ∧ i < 2 ^ 32) : ((BitVec.ofInt 32 i).toNat : Int) = i := by
  rw [BitVec.toNat_ofInt, Int.toNat_of_nonneg (by omega)]
  exact Int.emod_eq_of_lt h.1 h.2

/-- The report time of the next occurrence is taken, its day behind that occurrence's (R43, R149). -/
theorem reportDue_at_next {day : Int} {target : Time} (set : s.time.source ≠ .unset) (past : s.catch_.reportTaken = some day)
    (behind : latestDay s.time.now s.catch_.reportTime ≤ day)
    (range : 0 ≤ (day + 1) * 86400 + s.catch_.reportTime * 60 ∧ (day + 1) * 86400 + s.catch_.reportTime * 60 < 2 ^ 32)
    (next : BitVec.ofInt 32 ((day + 1) * 86400 + s.catch_.reportTime * 60) = target) :
    (s.waitCalendar s.catch_.reportTime s.catch_.reportTaken).reportDue =
      (({ s with
        time.now := target, catch_.reportTaken := some (latestDay target s.catch_.reportTime) } : State).trigger
          .daily).1 := by
  have due : calendarDue s.time.source target s.catch_.reportTime s.catch_.reportTaken = true := by
    rw [past, calendarDue_some]
    exact ⟨set, lt_latestDay_of_next (next ▸ toNat_ofInt_of_range range)⟩
  rw [past, waitCalendar_of_taken set behind, if_pos range, next]
  exact reportDue_of_due (s := { s with time.now := target }) due

theorem reportDue_without_next {day : Int} (set : s.time.source ≠ .unset) (past : s.catch_.reportTaken = some day)
    (behind : latestDay s.time.now s.catch_.reportTime ≤ day)
    (out : ¬(0 ≤ (day + 1) * 86400 + s.catch_.reportTime * 60 ∧ (day + 1) * 86400 + s.catch_.reportTime * 60 < 2 ^ 32)) :
    (s.waitCalendar s.catch_.reportTime s.catch_.reportTaken).reportDue = s := by
  have notDue : calendarDue s.time.source s.time.now s.catch_.reportTime s.catch_.reportTaken = false := by
    rw [past, ← Bool.not_eq_true, calendarDue_some]
    exact fun due => absurd due.2 (Int.not_lt.2 behind)
  rw [past, waitCalendar_of_taken set behind, if_neg out, reportDue_of_not_due notDue]

/-! ### The retry and the overdue timers (R154, R155) -/

theorem expire_some (s : State) (target : Time) (take : State → State) :
    s.expire (some target) take = take (s.waitUntil target) := rfl

theorem waitUntil_record (s : State) (target : Time) (n : Nat) : (s.waitUntil target).record n = s.record n := by
  rw [waitUntil_eq]
  rfl

theorem waitUntil_overdue (s : State) (target : Time) : (s.waitUntil target).catch_.overdue = s.catch_.overdue := by
  rw [waitUntil_eq]

theorem overdueExpired_of_delivered {n : Nat} {m : MsgRec} (h : s.record n = some m) (hm : m.state = .delivered) :
    s.overdueExpired n = ((s.requeueReport n).raise (.reportOverdue n m.span)).post .dueTest := by
  simp only [State.overdueExpired, h, hm, if_true]

theorem overdueExpired_of_other {n : Nat} (h : ∀ m, s.record n = some m → m.state ≠ .delivered) : s.overdueExpired n =
    if s.record n = none then s else { s with catch_.overdue := s.catch_.overdue.del n } := by
  unfold State.overdueExpired
  cases hr : s.record n with
  | none => rfl
  | some m => simp only [h m hr, if_false, reduceCtorEq]

end

/-! ### Reports: the statement -/

/-- Settles O33: the course of a trigger by the authority, the pending reports and the allocation; the events that give
triggers; a report returned to QUEUED; and the span and text of a report. -/
theorem reportTriggersTakeTheirCourse : Obligations.ReportTriggersTakeTheirCourse := by
  unfold Obligations.ReportTriggersTakeTheirCourse
  refine ⟨⟨?course, ?events⟩, fun s n => rfl, ?text⟩
  case course =>
    intro s t span text record pending
    refine ⟨fun h => trigger_of_no_authority h t, fun station h => ⟨fun ht hp => ?_, fun ht => ?_⟩⟩
    · rw [trigger_of_pending h ht hp]
      simp only [funext (pendingCourse_eq s)]
      rfl
    · rw [trigger_of_composing h ht]
      refine ⟨fun n u allocated => compose_of_allocated allocated t, fun u refused => ?_⟩
      rw [compose_of_refused refused t, defer_eq]
  case events =>
    intro s settled
    refine ⟨fun r passes => ?reportNow, fun running => ?reportTime, fun on => ?timers⟩
    case reportNow =>
      rw [exec_reportNow, command_next settled passes nofun, State.takeReportNow]
      dsimp only [State.afterRequest]
      cases ((s.taken r).trigger .now).2 <;> rfl
    case reportTime =>
      have taken (t : State) (ht : (s.waitCalendar s.catch_.reportTime s.catch_.reportTaken).reportDue = t) :
          exec .reportTimeDue s = .next (s.afterEvent t) := by
        rw [exec_reportTimeDue, event_next settled (by simp [running]), if_pos running, ht]
        rfl
      refine ⟨fun due => taken _ ?_, fun unset => taken _ ?_, fun day set past behind =>
        ⟨fun range => taken _ (reportDue_at_next set past behind range rfl),
          fun out => taken _ (reportDue_without_next set past behind out)⟩⟩
      · rw [waitCalendar_of_no_wait (.inr due), reportDue_of_due due]
      · rw [waitCalendar_of_no_wait (.inl unset), reportDue_of_not_due (calendarDue_eq_false_of_unset unset ..)]
    case timers =>
      have retry (t : State) (ht : s.expire s.catch_.deferral State.retryExpired = t) :
          exec .retryTimerExpiry s = .next (s.afterEvent t) := by
        rw [exec_retryTimerExpiry, event_next settled on, ht]
        rfl
      have overdue (n : Nat) (t : State) (ht : s.expire (s.catch_.overdue.find n) (fun u => u.overdueExpired n) = t) :
          exec (.overdueTimerExpiry n) s = .next (s.afterEvent t) := by
        rw [exec_overdueTimerExpiry, event_next settled on, ht]
        rfl
      refine ⟨fun target armed => retry _ ?_, fun disarmed => retry _ ?_, fun n target m armed held delivered => overdue n _ ?_,
        fun n target armed other => overdue n _ ?_, fun n disarmed => overdue n _ ?_⟩
      · rw [armed]
        rfl
      · rw [disarmed]
        rfl
      · rw [armed, expire_some, overdueExpired_of_delivered ((waitUntil_record s target n).trans held) delivered]
      · rw [armed, expire_some, overdueExpired_of_other (by simpa only [waitUntil_record] using other), waitUntil_record,
          waitUntil_overdue]
      · rw [disarmed]
        rfl
  case text =>
    intro s today decimals line
    have digits : decimals = decimal := funext fun k => funext fun n => (decimal_eq k n).symm
    refine ⟨reportSpan_eq s, fun span => ?_⟩
    rw [reportText_eq, digits]
    have lines : line = Row.line := by
      funext q
      rw [line_eq, ← digits]
    rw [lines]

end Sys2Proof.Machine.CatchAndSaves
end

/-! Proofs about the own alert's requests (R164 to R166, R170 to R174). -/
section

namespace Sys2Proof.Machine.DistressUnit

/-! ### Requests that reach other blocks -/

/-- A request that its rule takes: the blocks work off its effects, and its answer and the notices follow. -/
theorem command_done {s t : State} {k : ReqKind} {r : Req} {a : Answer} (h : s.Settled) (hp : s.Passes k r)
    (hk : ∀ n, k ≠ .other n) (f : State → State × Answer) (hf : f (s.taken r) = (t, a)) :
    command k r s f = .next (s.afterRequest k r t a) := by
  rw [command_next h hp hk, hf]
  rfl

/-! ### The class 1 claim (R166, R168, R192; log entry 23) -/

section
variable (s : State)

theorem grant_distress (c : Claim) : ∃ g, (s.grant c).distress = { s.distress with granted := g } := by
  unfold State.grant
  by_cases h : c = .distress
  · exact ⟨true, by rw [if_pos h]⟩
  · exact ⟨s.distress.granted, by rw [if_neg h]; rfl⟩

theorem revoke_distress (cause : RevokeCause) : (s.revoke cause).distress = s.distress := by
  unfold State.revoke
  cases s.arb.holder with
  | none => rfl
  | some h => exact dropRadio_distress s

theorem wait_distress (c h : Claim) : (s.wait c h).distress = s.distress := by
  unfold State.wait
  dsimp only
  split
  · split <;> rfl
  · split <;> rfl

/-- Placing a claim changes the distress unit by a GRANTED alone. -/
theorem place_distress (c : Claim) : ∃ g, (s.place c).distress = { s.distress with granted := g } := by
  unfold State.place
  split
  · exact ⟨s.distress.granted, rfl⟩
  split
  · exact ⟨s.distress.granted, rfl⟩
  split
  · exact grant_distress s c
  · next h _ =>
    split
    · obtain ⟨g, granted⟩ := grant_distress (s.revoke (.preEmpted c.cls)) c
      exact ⟨g, by rw [granted, revoke_distress]⟩
    · exact ⟨s.distress.granted, wait_distress s c h⟩

theorem claimDistress_of_not_holder {s : State} (h : s.arb.holder ≠ some .distress) :
    s.claimDistress = s.place .distress :=
  if_neg (mt (LinkedTraffic.holds_iff_holder s .distress).1 h)

/-- A hold kept over the last burst of a closed alert is granted after that burst, and at once when none is on the air. -/
theorem claimDistress_of_holder {s : State} (h : s.arb.holder = some .distress) : s.claimDistress =
    if s.distress.onAir then { s with distress.releaseAfter := false, distress.grantAfter := true }
    else { s with distress.releaseAfter := false, distress.granted := true } :=
  if_pos ((LinkedTraffic.holds_iff_holder s .distress).2 h)

/-- The claim changes the alert's marks of airtime alone. -/
theorem claimDistress_distress : ∃ g ra ga, s.claimDistress.distress =
    { s.distress with granted := g, releaseAfter := ra, grantAfter := ga } := by
  by_cases h : s.arb.holder = some .distress
  · rw [claimDistress_of_holder h]
    cases s.distress.onAir with
    | true => exact ⟨s.distress.granted, false, true, rfl⟩
    | false => exact ⟨true, false, s.distress.grantAfter, rfl⟩
  · obtain ⟨g, placed⟩ := place_distress s .distress
    exact ⟨g, s.distress.releaseAfter, s.distress.grantAfter, by rw [claimDistress_of_not_holder h, placed]⟩

end

/-! ### Effects on the alert's record (R165, R172, R173) -/

section
variable {s : State}

/-- The state in which an alert started in QUIET claims airtime, before its claim (R165). -/
def alertBegun (s : State) (n : Nature) (p : Nat) : State :=
  { s with
    distress := { s.distress with
      state := .pending, nature := n, persons := p, started := some s.time.now, rotPos := 0, nextCycle := none
      ackStation := none, lamp := true }
    raised := [.ownAlert .initiated .pending n p s.distress.serial (some s.time.now) none none] }

theorem initiate_eq (hr : s.raised = []) (n : Nature) (p : Nat) :
    s.initiate n p = (alertBegun s n p).claimDistress := by
  simp only [State.initiate, State.raiseOwn, State.raise, hr, List.nil_append, alertBegun]

theorem initiate_state_serial (hr : s.raised = []) (n : Nature) (p : Nat) :
    (s.initiate n p).distress.state = .pending ∧ (s.initiate n p).distress.serial = s.distress.serial := by
  obtain ⟨g, ra, ga, claimed⟩ := claimDistress_distress (alertBegun s n p)
  rw [initiate_eq hr, claimed]
  exact ⟨rfl, rfl⟩

/-- The state after an initiation in PENDING or ALERTING: UPDATED is raised only for a change (R165). -/
def alertUpdated (s : State) (kept : Nature) (p : Nat) : State :=
  { s with
    distress := { s.distress with nature := kept, persons := p }
    raised := if kept = s.distress.nature ∧ p = s.distress.persons then []
      else [.ownAlert .updated s.distress.state kept p s.distress.serial s.distress.started s.distress.ackStation none] }

theorem updateAlert_eq (hr : s.raised = []) (n : Nature) (p : Nat) :
    s.updateAlert n p = alertUpdated s (if n = .undesignated then s.distress.nature else n) p := by
  unfold State.updateAlert alertUpdated
  dsimp only
  generalize (if n = .undesignated then s.distress.nature else n) = kept
  by_cases same : kept = s.distress.nature ∧ p = s.distress.persons
  · rw [if_pos same, if_pos same, ← hr]
  · rw [if_neg same, if_neg same]
    simp only [State.raiseOwn, State.raise, hr, List.nil_append]

/-- The rotation's open entry is completed, and the cycle of an alert that becomes CANCELLING stops (R170, R172). -/
def alertStopped (s : State) : State :=
  let closed := s.distress.logEntry.elim s fun n => s.logComplete n (if 0 < s.distress.sent then .complete else .radioFault)
  { closed with
    distress := { s.distress with
      state := .cancelling, logEntry := none, slot := none, nextCycle := none, rotating := false }
    raised := [.ownAlert .cancelling .cancelling s.distress.nature s.distress.persons s.distress.serial
      s.distress.started s.distress.ackStation none] }

theorem stopCycle_raiseOwn_cancelling (hr : s.raised = []) :
    ({ s.stopCycle s.rotationOutcome with distress.state := .cancelling } : State).raiseOwn .cancelling =
      alertStopped s := by
  unfold State.stopCycle State.closeRotation alertStopped State.rotationOutcome
  cases entry : s.distress.logEntry <;>
    simp only [State.raiseOwn, State.raise, logComplete_raised, logComplete_distress, hr, entry, List.nil_append,
      Option.elim]

theorem cancelAlert_eq (hr : s.raised = []) : s.cancelAlert =
    if s.distress.state = .pending then alertStopped s
    else if s.distress.awaitTune = true ∨ s.distress.onAir = true then
      { alertStopped s with distress.cancelAfter := true }
    else (alertStopped s).startRotation := by
  unfold State.cancelAlert
  rw [stopCycle_raiseOwn_cancelling hr]
  simp only [Bool.or_eq_true]

theorem closeAlert_eq (hr : s.raised = []) : s.closeAlert =
    ({ s with
      distress := { s.distress with state := .quiet, lamp := false }
      raised := [.ownAlert .closed .quiet s.distress.nature s.distress.persons s.distress.serial s.distress.started
        s.distress.ackStation none] } : State).post .dueTest := by
  simp only [State.closeAlert, State.raiseOwn, State.raise, hr, List.nil_append]

/-! ### What each request does by the alert's state (R164, R172, R173) -/

/-- The answer to a DISTRESS that is taken, PARTIAL when persons were clamped (R164). -/
def distressAnswer (persons : Nat) (state : OwnState) (serial : BitVec 8) : Answer :=
  ⟨if 255 < persons then .partly else .ok, .own state serial (if 255 < persons then [.personsClamped] else [])⟩

theorem takeDistress_of_bad_nature {nature : Nat}
    (h : Nature.ofCode nature = none ∨ Nature.ofCode nature = some .cancel) (persons : Nat) :
    s.takeDistress nature persons = (s, plain .badArgument) := by
  unfold State.takeDistress
  obtain h | h := h <;> rw [h]

section
variable {nature : Nat} {n : Nature} (code : Nature.ofCode nature = some n) (defined : n ≠ .cancel) (persons : Nat)
include code defined

theorem takeDistress_of_nature : s.takeDistress nature persons =
    if s.distress.state = .acknowledged ∨ s.distress.state = .cancelling then (s, plain .wrongState)
    else (s.initiateByRequest n (min persons 255), distressAnswer persons
      (s.initiateByRequest n (min persons 255)).distress.state
      (s.initiateByRequest n (min persons 255)).distress.serial) := by
  unfold State.takeDistress distressAnswer
  rw [code]
  split
  · next h => exact absurd h nofun
  · next h => exact absurd (Option.some.inj h) defined
  · next m _ _ h =>
    cases h
    by_cases clamped : 255 < persons
    · simp only [if_pos clamped]
      rfl
    · simp only [if_neg clamped]
      rfl

theorem takeDistress_of_barred (h : s.distress.state = .acknowledged ∨ s.distress.state = .cancelling) :
    s.takeDistress nature persons = (s, plain .wrongState) := by
  rw [takeDistress_of_nature code defined, if_pos h]

theorem takeDistress_of_quiet (hr : s.raised = []) (h : s.distress.state = .quiet) : s.takeDistress nature persons =
    ((alertBegun s n (min persons 255)).claimDistress, distressAnswer persons .pending s.distress.serial) := by
  have initiates : s.initiateByRequest n (min persons 255) = s.initiate n (min persons 255) := by
    rw [State.initiateByRequest, h]
  obtain ⟨state, serial⟩ := initiate_state_serial hr n (min persons 255)
  rw [takeDistress_of_nature code defined, if_neg (by simp [h]), initiates, state, serial, initiate_eq hr]

theorem takeDistress_of_active (hr : s.raised = []) (h : s.distress.state = .pending ∨ s.distress.state = .alerting) :
    s.takeDistress nature persons =
      (alertUpdated s (if n = .undesignated then s.distress.nature else n) (min persons 255),
        distressAnswer persons s.distress.state s.distress.serial) := by
  have updates : s.initiateByRequest n (min persons 255) = s.updateAlert n (min persons 255) := by
    obtain h | h := h <;> rw [State.initiateByRequest, h]
  have notBarred : ¬(s.distress.state = .acknowledged ∨ s.distress.state = .cancelling) := by
    obtain h | h := h <;> simp [h]
  rw [takeDistress_of_nature code defined, if_neg notBarred, updates, updateAlert_eq hr]
  rfl

end

theorem takeDistressCancel_of_active (h : s.distress.state = .pending ∨ s.distress.state = .alerting) :
    s.takeDistressCancel = (s.cancelAlert, plain .ok) := by
  obtain h | h := h <;> rw [State.takeDistressCancel, h]

theorem takeDistressCancel_of_inactive (hp : s.distress.state ≠ .pending) (ha : s.distress.state ≠ .alerting) :
    s.takeDistressCancel = (s, plain .wrongState) := by
  unfold State.takeDistressCancel
  cases h : s.distress.state with
  | pending => exact absurd h hp
  | alerting => exact absurd h ha
  | quiet | acknowledged | cancelling => rfl

end

/-! ### The own alert: the statement -/

/-- Settles O34: DISTRESS by the nature and the alert's state, DISTRESS-CANCEL and DISTRESS-CLOSE by the alert's state, and
the class 1 claim by the holder. -/
theorem ownAlertStartedCancelledClosed : Obligations.OwnAlertStartedCancelledClosed := by
  unfold Obligations.OwnAlertStartedCancelledClosed
  refine ⟨fun s r settled => ?requests, fun s => ⟨claimDistress_of_not_holder, fun held => ?claims, rfl⟩⟩
  case requests =>
    have raised : (s.taken r).raised = [] := settled.2.1
    refine ⟨?start, ?cancel, ?close⟩
    case start =>
      intro passes nature persons
      rw [exec_distress]
      refine ⟨fun n code defined => ⟨fun quiet => ?_, fun active => ?_, fun content barred => ?_⟩,
        fun content bad => ?_⟩
      · exact command_done settled passes nofun _ (takeDistress_of_quiet code defined persons raised quiet)
      · exact command_done settled passes nofun _ (takeDistress_of_active code defined persons raised active)
      · exact command_refused settled passes nofun content _ (takeDistress_of_barred code defined persons barred)
      · exact command_refused settled passes nofun content _ (takeDistress_of_bad_nature bad persons)
    case cancel =>
      intro passes outcome closed stopped
      have stopped_eq : stopped = alertStopped (s.taken r) := by
        have closed_eq : closed = s.distress.logEntry.elim (s.taken r) fun n => (s.taken r).logComplete n outcome := by
          unfold closed
          cases s.distress.logEntry <;> rfl
        unfold stopped
        rw [closed_eq]
        rfl
      rw [exec_distressCancel, stopped_eq]
      refine ⟨fun active => ?_, fun content notPending notAlerting => ?_⟩
      · refine command_done settled passes nofun _ ?_
        rw [takeDistressCancel_of_active (s := s.taken r) active, cancelAlert_eq raised]
        rfl
      · exact command_refused settled passes nofun content _ (takeDistressCancel_of_inactive notPending notAlerting)
    case close =>
      intro passes
      rw [exec_distressClose]
      refine ⟨fun acknowledged => ?_, fun content other => ?_⟩
      · refine command_done settled passes nofun _ ((if_pos acknowledged).trans ?_)
        rw [closeAlert_eq raised]
        rfl
      · exact command_refused settled passes nofun content _ (if_neg other)
  case claims =>
    rw [claimDistress_of_holder held]
    exact ⟨fun onAir => if_pos onAir, fun silent => if_neg (ne_true_of_eq_false silent)⟩

end Sys2Proof.Machine.DistressUnit
end

/-! Proofs about commands: how each one completes, and the checks of a request (R200, R211 to R213). -/
section

namespace Sys2Proof.Machine.ConsolePorts

/-! ### Every command completes -/

theorem requestWith_completes (work : State → State) (k : ReqKind) (r : Req) (s : State) (f : State → State × Answer) :
    ∃ t, requestWith work k r s f = .next t ∧ t.pending = s.pending := by
  unfold requestWith
  split
  · exact ⟨s, rfl, rfl⟩
  · dsimp only
    split <;> exact ⟨_, rfl, seal_pending _ _⟩

theorem localEvent_completes (s : State) (f : State → State) :
    ∃ t, localEvent s f = .next t ∧ t.pending = s.pending := by
  unfold localEvent
  split
  · exact ⟨s, rfl, rfl⟩
  · exact ⟨_, rfl, seal_pending _ _⟩

theorem requestWith_off {s : State} (off : s.phase = .off) (work : State → State) (k : ReqKind) (r : Req)
    (f : State → State × Answer) : requestWith work k r s f = .next s := if_pos off

theorem localEvent_off {s : State} (off : s.phase = .off) (f : State → State) : localEvent s f = .next s := if_pos off

theorem loadSettings_pending (s : State) : s.loadSettings.pending = s.pending := by
  unfold State.loadSettings
  split <;> rfl

theorem loadTally_pending (s : State) : s.loadTally.pending = s.pending := by
  unfold State.loadTally
  split <;> rfl

theorem poweredOn_pending (s : State) (level1 level2 level3 : BitVec 2) :
    (s.poweredOn level1 level2 level3).pending = s.pending :=
  (loadTally_pending _).trans (loadSettings_pending _)

/-- The commands that reach a part that is off. -/
def ReachesOff (c : Instr) : Prop :=
  (∃ a b d, c = .powerOn a b d) ∨ c = .powerLoss ∨ c = .distressLineAsserted ∨ c = .distressLineReleased

/-- Every other command is a request or an event. -/
theorem exec_of_not_reachesOff {c : Instr} (h : ¬ReachesOff c) (s : State) :
    (∃ work k r f, exec c s = requestWith work k r s f) ∨ ∃ f, exec c s = localEvent s f := by
  cases kind : requestOf c with
  | some kr =>
    obtain ⟨k, r⟩ := kr
    obtain ⟨work, f, -, e⟩ := exec_request s kind
    exact .inl ⟨work, k, r, f, e⟩
  | none =>
    simp only [ReachesOff, not_or, not_exists] at h
    obtain ⟨on, loss, press, free⟩ := h
    exact .inr (exec_event s kind on loss press free)

theorem exec_completes (c : Instr) (s : State) : ∃ t, exec c s = .next t ∧ t.pending = s.pending := by
  by_cases h : ReachesOff c
  · obtain ⟨a, b, d, rfl⟩ | rfl | rfl | rfl := h
    · exact ⟨_, exec_powerOn .., poweredOn_pending ..⟩
    · exact ⟨_, exec_powerLoss s, rfl⟩
    · rw [exec_distressLineAsserted]
      split
      · exact ⟨_, rfl, rfl⟩
      · exact localEvent_completes _ _
    · rw [exec_distressLineReleased]
      split
      · exact ⟨_, rfl, rfl⟩
      · exact localEvent_completes _ _
  · obtain ⟨work, k, r, f, e⟩ | ⟨f, e⟩ := exec_of_not_reachesOff h s
    · rw [e]; exact requestWith_completes ..
    · rw [e]; exact localEvent_completes ..

theorem exec_off {c : Instr} (h : ¬ReachesOff c) {s : State} (off : s.phase = .off) : exec c s = .next s := by
  obtain ⟨work, k, r, f, e⟩ | ⟨f, e⟩ := exec_of_not_reachesOff h s
  · rw [e, requestWith_off off]
  · rw [e, localEvent_off off]

/-- Settles O3: a command is a request, an event, or one of the four that reach a part that is off. -/
theorem everyCommandCompletes : Obligations.EveryCommandCompletes := by
  unfold Obligations.EveryCommandCompletes
  refine ⟨exec_completes, fun c s off => ⟨?press, ?free, ?others⟩⟩
  case press => rintro rfl; exact (exec_distressLineAsserted s).trans (if_pos off)
  case free => rintro rfl; exact (exec_distressLineReleased s).trans (if_pos off)
  case others =>
    intro on loss press free
    refine exec_off ?_ off
    simp only [ReachesOff, not_or, not_exists]
    exact ⟨on, loss, press, free⟩

/-! ### The checks of a request (R200, R211) -/

section
variable {s : State} {k : ReqKind} {r : Req}

/-- The frame's arrival does not bear on the checks. -/
theorem refusal_taken (s : State) (k : ReqKind) (r : Req) : (s.taken r).refusal k r = s.refusal k r := by
  have holds : (s.taken r).holds r.port = s.holds r.port := funext (holds_taken s r r.port)
  have queue : ((s.taken r).ports.get r.port).outQ = (s.ports.get r.port).outQ := by
    simp [State.taken, PortState.frameEnds]
  unfold State.refusal
  rw [holds, queue]
  rfl

theorem refusal_of_loading (h : s.phase = .loading) (k : ReqKind) (r : Req) : s.refusal k r = some .starting := if_pos h

/-- The checks of a request of a kind in the index, while the part runs. -/
theorem refusal_of_running (h : s.phase = .running) (known : ∀ n, k ≠ .other n) (r : Req) : s.refusal k r =
    if r.fits = false then some .badArgument
    else if k.grant.all (s.holds r.port) = false then some .refusedGrant
    else if 64 ≤ (s.ports.get r.port).outQ.length then some .inUse
    else if k.image = true ∧ s.settings.saveState ≠ .idle then some .inUse
    else none := by
  have loaded : ¬s.phase = .loading := by rw [h]; decide
  unfold State.refusal
  rw [if_neg loaded]
  cases k with
  | other n => exact absurd rfl (known n)
  | _ => simp [Config.queueFull, State.saving]

theorem refusal_of_unknown (h : s.phase = .running) (n : Nat) (r : Req) :
    s.refusal (.other n) r = some .unknownKind := by
  have loaded : ¬s.phase = .loading := by rw [h]; decide
  unfold State.refusal
  rw [if_neg loaded]

/-- A request that fails a check is answered with its code, and nothing else happens. -/
theorem request_refused {c : Instr} (kind : requestOf c = some (k, r)) (settled : s.Settled) (on : s.phase ≠ .off)
    {code : Code} (refused : s.refusal k r = some code) : exec c s = .next (s.answered k r (plain code) []) := by
  obtain ⟨work, f, -, e⟩ := exec_request s kind
  have refused' : (s.taken r).refusal k r = some code := (refusal_taken s k r).trans refused
  rw [e]
  refine (?_ : requestWith work k r s f = .next (((s.taken r).reply k r (plain code)).seal s.pending)).trans
    (congrArg _ (reply_seal_nil k r _ settled))
  unfold requestWith
  rw [if_neg on, scrub_settled settled]
  unfold State.taken at refused' ⊢
  simp only [refused', plain]

end

/-- Settles O12: each check that fails is the refusal that the request is answered with. -/
theorem requestChecksInOrder : Obligations.RequestChecksInOrder := by
  unfold Obligations.RequestChecksInOrder
  intro c k r s kind settled
  refine ⟨fun loading => ?_, fun running => ?_⟩
  · exact request_refused kind settled (by simp [loading]) (refusal_of_loading loading k r)
  · have on : s.phase ≠ .off := by simp [running]
    refine ⟨?unknown, fun known => ?known⟩
    case unknown => rintro n rfl; exact request_refused kind settled on (refusal_of_unknown running n r)
    case known =>
      have checks := refusal_of_running running known r
      refine ⟨fun unfit => ?_, fun fits barred => ?_, fun fits granted full => ?_,
        fun fits granted _ image saving => ?_⟩
      · exact request_refused kind settled on (checks.trans (if_pos unfit))
      · exact request_refused kind settled on (by simp [checks, fits, barred])
      · exact request_refused kind settled on (by simp [checks, fits, granted, full])
      · exact request_refused kind settled on (by simp [checks, fits, granted, image, saving])

end Sys2Proof.Machine.ConsolePorts
end

/-! Proofs about the output queues: every request is answered once, before the notices of its effects (R200, R201). -/
section

namespace Sys2Proof.Machine.ConsolePorts

/-! ### Output queues -/

/-- The output queues of the three ports. -/
def queues (s : State) : PerPort (List OutFrame) := s.ports.map PortState.outQ

theorem queues_get (s : State) (p : Port) : (queues s).get p = (s.ports.get p).outQ := PerPort.get_map ..

theorem queues_of_ports {s t : State} (h : t.ports = s.ports) : queues t = queues s := by rw [queues, h, queues]

/-- A port that takes a notice queues it or sets a flag. -/
theorem take_outQ (n : Notice) (q : PortState) :
    (q.take n).outQ = q.outQ ∨ (q.take n).outQ = q.outQ ++ [.notice n] := by
  unfold PortState.take
  split
  · exact .inr rfl
  · dsimp only
    split
    · split
      · exact .inr rfl
      · exact .inl rfl
    · exact .inl rfl

theorem takeAll_outQ (l : List Notice) (q : PortState) :
    ∃ ns : List Notice, (q.takeAll l).outQ = q.outQ ++ ns.map OutFrame.notice := by
  induction l generalizing q with
  | nil => exact ⟨[], by simp⟩
  | cons n l ih =>
    obtain ⟨ns, later⟩ := ih (q.take n)
    have both : (q.takeAll (n :: l)).outQ = (q.take n).outQ ++ ns.map OutFrame.notice := later
    rcases take_outQ n q with first | first
    · exact ⟨ns, by rw [both, first]⟩
    · exact ⟨n :: ns, by rw [both, first, List.append_assoc]; rfl⟩

theorem seal_outQ (s : State) (l : List Instr) (p : Port) :
    ∃ ns : List Notice, ((s.seal l).ports.get p).outQ = (s.ports.get p).outQ ++ ns.map OutFrame.notice := by
  obtain ⟨ns, h⟩ := takeAll_outQ s.raised (s.ports.get p)
  exact ⟨ns, by rw [← h]; exact congrArg _ (PerPort.get_map ..)⟩

theorem reply_outQ_self (s : State) (k : ReqKind) (r : Req) (a : Answer) :
    ((s.reply k r a).ports.get r.port).outQ = (s.ports.get r.port).outQ ++ [.answer r.tag k a] := by
  simp [State.reply, PortState.enqueue]

theorem reply_outQ_other (s : State) (k : ReqKind) (r : Req) (a : Answer) {p : Port} (h : p ≠ r.port) :
    ((s.reply k r a).ports.get p).outQ = (s.ports.get p).outQ := by
  simp [State.reply, PerPort.get_set_ne _ _ _ _ h]

/-- A request has been answered in `t`: its answer has joined its port's queue, and after it notices alone each
queue. -/
def Answered (k : ReqKind) (r : Req) (s t : State) (a : Answer) : Prop :=
  (∃ ns : List Notice, (t.ports.get r.port).outQ =
    (s.ports.get r.port).outQ ++ OutFrame.answer r.tag k a :: ns.map OutFrame.notice) ∧
  ∀ p, p ≠ r.port → ∃ ns : List Notice, (t.ports.get p).outQ = (s.ports.get p).outQ ++ ns.map OutFrame.notice

theorem answered_of_queues {s u : State} (h : queues u = queues s) (k : ReqKind) (r : Req) (a : Answer)
    (l : List Instr) : Answered k r s ((u.reply k r a).seal l) a := by
  have same (p : Port) : (u.ports.get p).outQ = (s.ports.get p).outQ := by rw [← queues_get, h, queues_get]
  constructor
  · obtain ⟨ns, sealed⟩ := seal_outQ (u.reply k r a) l r.port
    exact ⟨ns, by rw [sealed, reply_outQ_self, same, List.append_assoc]; rfl⟩
  · intro p other
    obtain ⟨ns, sealed⟩ := seal_outQ (u.reply k r a) l p
    exact ⟨ns, by rw [sealed, reply_outQ_other _ _ _ _ other, same]⟩

theorem queues_taken (s : State) (r : Req) : queues (s.taken r) = queues s := by
  obtain ⟨p, -, -⟩ := r
  cases p <;> rfl

/-- A request whose effects leave the queues alone is answered once. -/
theorem requestWith_answers {work : State → State} {f : State → State × Answer}
    (worked : ∀ u, (work u).ports = u.ports) (effect : ∀ u, queues (f u).1 = queues u) {s : State}
    (on : s.phase ≠ .off) (k : ReqKind) (r : Req) :
    ∃ t a, requestWith work k r s f = .next t ∧ Answered k r s t a := by
  have arrived : queues (s.scrub.taken r) = queues s := queues_taken s.scrub r
  unfold requestWith
  rw [if_neg on]
  dsimp only
  split
  · exact ⟨_, _, rfl, answered_of_queues arrived ..⟩
  · exact ⟨_, _, rfl, answered_of_queues ((queues_of_ports (worked _)).trans ((effect _).trans arrived)) ..⟩

/-! ### The effects of a request leave the ports alone: messages, tables and position (R14 to R34, R48, R50) -/

section
variable {s : State}

/-- What an allocation leaves alone, read off its outcome. -/
theorem ports_of_outcome {α : Type} {x : α × State} {a : α} {t : State} (outcome : x = (a, t))
    (h : x.2.ports = s.ports) : t.ports = s.ports := by rwa [outcome] at h

theorem onMessage_ports {take : MsgRec → State × Answer} (h : ∀ m, (take m).1.ports = s.ports) (n : Nat) :
    (s.onMessage n take).1.ports = s.ports := by
  unfold State.onMessage
  split
  · rfl
  · exact h _

theorem onOwnMessage_ports {take : MsgRec → State × Answer} (h : ∀ m, (take m).1.ports = s.ports) (p : Port) (n : Nat) :
    (s.onOwnMessage p n take).1.ports = s.ports := by
  refine onMessage_ports (fun m => ?_) n
  split
  · exact h m
  · rfl

theorem onReadable_ports {take : MsgRec → State × Answer} (h : ∀ m, (take m).1.ports = s.ports) (p : Port) (n : Nat) :
    (s.onReadable p n take).1.ports = s.ports := by
  refine onMessage_ports (fun m => ?_) n
  split
  · exact h m
  · rfl

variable (s)

theorem takeCreate_ports (p : Port) (station precedence : Nat) :
    (s.takeCreate p station precedence).1.ports = s.ports := by
  unfold State.takeCreate
  split
  · rfl
  · split
    · rfl
    · rfl
    · dsimp only
      split
      · exact ports_of_outcome ‹_› (allocRecord_ports ..)
      · exact ports_of_outcome ‹_› (allocRecord_ports ..)

theorem takeAppend_ports (p : Port) (n : Nat) (bytes : List Byte) : (s.takeAppend p n bytes).1.ports = s.ports := by
  refine onOwnMessage_ports (fun m => ?_) p n
  split
  · rfl
  · split
    · rfl
    · dsimp only
      split <;> exact appendBytes_ports ..

theorem takeSubmit_ports (p : Port) (n : Nat) : (s.takeSubmit p n).1.ports = s.ports := by
  refine onOwnMessage_ports (fun m => ?_) p n
  (repeat' split) <;> rfl

theorem takeWithdraw_ports (p : Port) (n : Nat) : (s.takeWithdraw p n).1.ports = s.ports := by
  refine onOwnMessage_ports (fun m => ?_) p n
  cases m.state
  case draft | queued | failed => exact freeRecord_ports s n
  case sending => dsimp only; split <;> rfl
  case delivered | confirmed | receiving | stored => rfl

theorem takeDelete_ports (p : Port) (n : Nat) : (s.takeDelete p n).1.ports = s.ports := by
  refine onReadable_ports (fun m => ?_) p n
  split
  · exact freeRecord_ports s n
  · rfl

theorem takeRead_ports (p : Port) (n offset count : Nat) : (s.takeRead p n offset count).1.ports = s.ports := by
  refine onReadable_ports (fun m => ?_) p n
  dsimp only
  (repeat' split) <;> rfl

theorem takeKeep_ports (p : Port) (n : Nat) (v : Bool) : (s.takeKeep p n v).1.ports = s.ports := by
  refine onReadable_ports (fun m => ?_) p n
  split <;> rfl

theorem takeStationSet_ports (entry : Nat) (a : StationArgs) : (s.takeStationSet entry a).1.ports = s.ports := by
  unfold State.takeStationSet
  dsimp only
  split
  · rfl
  · split
    · rfl
    · split
      · rfl
      · exact writeStation_ports ..

theorem takeStationClear_ports (entry : Nat) : (s.takeStationClear entry).1.ports = s.ports := by
  unfold State.takeStationClear
  split
  · rfl
  · split
    · rfl
    · exact raiseLostHolds_ports ..

theorem takeConsoleHold_ports (station : Nat) (v : Bool) : (s.takeConsoleHold station v).1.ports = s.ports := by
  unfold State.takeConsoleHold
  split
  · exact setConsoleHold_ports ..
  · rfl

theorem takeChannelSet_ports (entry : Nat) (a : ChannelArgs) : (s.takeChannelSet entry a).1.ports = s.ports := by
  unfold State.takeChannelSet
  dsimp only
  (repeat' split) <;> rfl

theorem takeChannelClear_ports (entry : Nat) : (s.takeChannelClear entry).1.ports = s.ports := by
  unfold State.takeChannelClear
  (repeat' split) <;> rfl

theorem takeChannelDisable_ports (entry : Nat) : (s.takeChannelDisable entry).1.ports = s.ports := by
  unfold State.takeChannelDisable
  split <;> rfl

theorem takeChannelEnable_ports (entry : Nat) : (s.takeChannelEnable entry).1.ports = s.ports := by
  unfold State.takeChannelEnable
  split <;> rfl

theorem takePosition_ports (lat lon : Int) : (s.takePosition lat lon).1.ports = s.ports := by
  unfold State.takePosition
  (repeat' split) <;> rfl

theorem takeAreaSet_ports (area : Nat) (a : AreaArgs) : (s.takeAreaSet area a).1.ports = s.ports := by
  unfold State.takeAreaSet
  split <;> rfl

theorem takeAreaClear_ports (area : Nat) : (s.takeAreaClear area).1.ports = s.ports := by
  unfold State.takeAreaClear
  split <;> rfl

/-! ### The link engine and the broadcasts (R73, R76, R103, R118, R119, R137) -/

theorem takeCallNow_ports (station : Nat) : (s.takeCallNow station).1.ports = s.ports := by
  unfold State.takeCallNow
  split <;> rfl

theorem takeWatchStation_ports (v : Option Nat) : (s.takeWatchStation v).1.ports = s.ports := by
  have set (w : Option Nat) : (s.setWatchStation w).ports = s.ports := rechooseWatch_ports _
  unfold State.takeWatchStation
  split
  · exact set none
  · split
    · rfl
    · split
      · rfl
      · exact set _

theorem takeAcceptSet_ports (code addressing value : Nat) :
    (s.takeAcceptSet code addressing value).1.ports = s.ports := by
  unfold State.takeAcceptSet
  (repeat' split) <;> rfl

theorem takeScheduleSet_ports (entry : Nat) (a : ScheduleArgs) : (s.takeScheduleSet entry a).1.ports = s.ports := by
  unfold State.takeScheduleSet
  (repeat' split) <;> rfl

theorem takeScheduleClear_ports (entry : Nat) : (s.takeScheduleClear entry).1.ports = s.ports := by
  unfold State.takeScheduleClear
  (repeat' split) <;> rfl

/-! ### The catch unit (R139, R140, R142, R148, R157, R158) -/

theorem takeSpeciesSet_ports (entry : Nat) (given : List Byte) (quota : Nat) :
    (s.takeSpeciesSet entry given quota).1.ports = s.ports := by
  unfold State.takeSpeciesSet
  split
  · rfl
  · split
    · rfl
    · split
      · rfl
      · split
        · rfl
        · split
          · rfl
          · exact evaluateSpecies_ports ..

theorem takeSpeciesClear_ports (entry : Nat) : (s.takeSpeciesClear entry).1.ports = s.ports := by
  unfold State.takeSpeciesClear
  (repeat' split) <;> rfl

theorem takeFactorSet_ports (code : List Byte) (form factor : Nat) :
    (s.takeFactorSet code form factor).1.ports = s.ports := by
  unfold State.takeFactorSet
  (repeat' split) <;> rfl

theorem takeFactorClear_ports (code : List Byte) (form : Nat) : (s.takeFactorClear code form).1.ports = s.ports := by
  unfold State.takeFactorClear
  (repeat' split) <;> rfl

theorem takePosting_ports (haul : Nat) (code : List Byte) (form weight kind : Nat) :
    (s.takePosting haul code form weight kind).1.ports = s.ports := by
  unfold State.takePosting
  split
  · rfl
  · split
    · rfl
    · split
      · rfl
      · exact evaluateSpecies_ports ..

theorem takeReportTimeSet_ports (minute : Nat) : (s.takeReportTimeSet minute).1.ports = s.ports := by
  unfold State.takeReportTimeSet
  split <;> rfl

theorem takeReportNow_ports : s.takeReportNow.1.ports = s.ports := trigger_ports s .now

theorem takeTripStart_ports : s.takeTripStart.1.ports = s.ports := by
  unfold State.takeTripStart
  split <;> rfl

/-! ### The distress unit (R164, R172, R173, R180) -/

theorem takeDistress_ports (nature persons : Nat) : (s.takeDistress nature persons).1.ports = s.ports := by
  have initiated (n : Nature) (q : Nat) : (s.initiateByRequest n q).ports = s.ports := by
    unfold State.initiateByRequest
    split
    · exact initiate_ports ..
    all_goals exact updateAlert_ports ..
  unfold State.takeDistress
  split
  · rfl
  · rfl
  · split
    · rfl
    · exact initiated ..

theorem takeDistressCancel_ports : s.takeDistressCancel.1.ports = s.ports := by
  unfold State.takeDistressCancel
  cases s.distress.state
  case pending | alerting => exact cancelAlert_ports s
  case quiet | acknowledged | cancelling => rfl

theorem takeDistressClose_ports : s.takeDistressClose.1.ports = s.ports := by
  unfold State.takeDistressClose
  split
  · exact closeAlert_ports s
  · rfl

theorem takeAlarmAck_ports (p : Port) (given : Nat) : (s.takeAlarmAck p given).1.ports = s.ports := by
  unfold State.takeAlarmAck
  split
  · rfl
  · dsimp only
    split
    · exact ackAlarm_ports ..
    · rfl

theorem restoreRadios_ports : s.restoreMain.restoreWatch.ports = s.ports :=
  (restoreWatch_ports _).trans (restoreMain_ports s)

theorem takeShipSet_ports (number : Nat) (name callSign : List Byte) :
    (s.takeShipSet number name callSign).1.ports = s.ports := by
  unfold State.takeShipSet
  (repeat' split) <;> rfl

theorem takeSaveSettings_ports : s.takeSaveSettings.1.ports = s.ports := by
  unfold State.takeSaveSettings
  split <;> rfl

end

/-! ### Requests that change a port leave its queue alone (R25, R203, R207 to R209, R213) -/

section
variable (s : State) (p : Port)

theorem updPort_queues {f : PortState → PortState} (h : ∀ q, (f q).outQ = q.outQ) :
    queues (s.updPort p f) = queues s := by
  cases p <;> simp [queues, State.updPort, PerPort.set, PerPort.get, PerPort.map, h]

theorem setCursor_queues (cursor : Half) : queues (s.setCursor p cursor) = queues s :=
  updPort_queues s p (f := fun q => { q with cursor }) fun _ => rfl

theorem takeReadLog_queues (start : Option Half) : queues (s.takeReadLog p start).1 = queues s := by
  unfold State.takeReadLog
  dsimp only
  split <;> exact setCursor_queues ..

theorem takeGrantSet_queues (port : Nat) (given : Half) : queues (s.takeGrantSet p port given).1 = queues s := by
  unfold State.takeGrantSet
  split
  · rfl
  · exact updPort_queues s _ (f := fun q => { q with map := _ }) fun _ => rfl

theorem takePoll_queues : queues (s.takePoll p).1 = queues s := by
  unfold State.takePoll
  dsimp only
  split
  · rfl
  · exact updPort_queues s p fun _ => rfl

theorem loadSettings_queues : queues s.loadSettings = queues s := by
  unfold State.loadSettings
  split <;> rfl

theorem takeRestart_queues : queues s.takeRestart.1 = queues s := by
  unfold State.takeRestart
  split
  · rfl
  · split
    · rfl
    · exact (loadSettings_queues _).trans rfl

end

/-! ### The statement -/

/-- A request command whose effects leave the output queues alone. -/
def LeavesQueues (c : Instr) (k : ReqKind) (r : Req) (s : State) : Prop :=
  ∃ (work : State → State) (f : State → State × Answer), (∀ u, (work u).ports = u.ports) ∧
    (∀ u, queues (f u).1 = queues u) ∧ exec c s = requestWith work k r s f

section
variable {c : Instr} {k : ReqKind} {r : Req} {s : State}

theorem LeavesQueues.ofQueues {f : State → State × Answer} (h : exec c s = localRequest k r s f)
    (effect : ∀ u, queues (f u).1 = queues u) : LeavesQueues c k r s :=
  ⟨id, f, fun _ => rfl, effect, h⟩

theorem LeavesQueues.ofQuery {f : State → Answer} (h : exec c s = query k r s f) : LeavesQueues c k r s :=
  .ofQueues h fun _ => rfl

theorem LeavesQueues.ofLocal {f : State → State × Answer} (h : exec c s = localRequest k r s f)
    (effect : ∀ u, (f u).1.ports = u.ports) : LeavesQueues c k r s :=
  .ofQueues h fun u => queues_of_ports (effect u)

theorem LeavesQueues.ofCommand {f : State → State × Answer} (h : exec c s = command k r s f)
    (effect : ∀ u, (f u).1.ports = u.ports) : LeavesQueues c k r s :=
  ⟨State.work, f, work_ports, fun u => queues_of_ports (effect u), h⟩

end

theorem request_leavesQueues {c : Instr} {k : ReqKind} {r : Req} (kind : requestOf c = some (k, r)) (s : State) :
    LeavesQueues c k r s := by
  cases c <;> simp only [requestOf, Option.some.injEq, Prod.mk.injEq, reduceCtorEq] at kind <;>
    obtain ⟨rfl, rfl⟩ := kind
  case create => exact .ofLocal (exec_create ..) fun _ => takeCreate_ports ..
  case append => exact .ofLocal (exec_append ..) fun _ => takeAppend_ports ..
  case submit => exact .ofCommand (exec_submit ..) fun _ => takeSubmit_ports ..
  case withdraw => exact .ofCommand (exec_withdraw ..) fun _ => takeWithdraw_ports ..
  case delete => exact .ofLocal (exec_delete ..) fun _ => takeDelete_ports ..
  case list => exact .ofQuery (exec_list ..)
  case read => exact .ofLocal (exec_read ..) fun _ => takeRead_ports ..
  case keepSet => exact .ofLocal (exec_keepSet ..) fun _ => takeKeep_ports ..
  case keepClear => exact .ofLocal (exec_keepClear ..) fun _ => takeKeep_ports ..
  case readLog => exact .ofQueues (exec_readLog ..) fun _ => takeReadLog_queues ..
  case stationSet => exact .ofCommand (exec_stationSet ..) fun _ => takeStationSet_ports ..
  case stationClear => exact .ofCommand (exec_stationClear ..) fun _ => takeStationClear_ports ..
  case stationGet => exact .ofQuery (exec_stationGet ..)
  case holdStation => exact .ofCommand (exec_holdStation ..) fun _ => takeConsoleHold_ports ..
  case releaseStation => exact .ofCommand (exec_releaseStation ..) fun _ => takeConsoleHold_ports ..
  case channelSet => exact .ofCommand (exec_channelSet ..) fun _ => takeChannelSet_ports ..
  case channelClear => exact .ofCommand (exec_channelClear ..) fun _ => takeChannelClear_ports ..
  case channelDisable => exact .ofCommand (exec_channelDisable ..) fun _ => takeChannelDisable_ports ..
  case channelEnable => exact .ofCommand (exec_channelEnable ..) fun _ => takeChannelEnable_ports ..
  case channelGet => exact .ofQuery (exec_channelGet ..)
  case setTime => exact .ofCommand (exec_setTime ..) fun _ => loadClock_ports ..
  case position => exact .ofLocal (exec_position ..) fun _ => takePosition_ports ..
  case areaSet => exact .ofLocal (exec_areaSet ..) fun _ => takeAreaSet_ports ..
  case areaClear => exact .ofLocal (exec_areaClear ..) fun _ => takeAreaClear_ports ..
  case areaGet => exact .ofQuery (exec_areaGet ..)
  case fixStatus => exact .ofQuery (exec_fixStatus ..)
  case callNow => exact .ofCommand (exec_callNow ..) fun _ => takeCallNow_ports ..
  case watchStation => exact .ofCommand (exec_watchStation ..) fun _ => takeWatchStation_ports ..
  case acceptSet => exact .ofLocal (exec_acceptSet ..) fun _ => takeAcceptSet_ports ..
  case acceptGet => exact .ofQuery (exec_acceptGet ..)
  case scheduleSet => exact .ofLocal (exec_scheduleSet ..) fun _ => takeScheduleSet_ports ..
  case scheduleClear => exact .ofLocal (exec_scheduleClear ..) fun _ => takeScheduleClear_ports ..
  case scheduleGet => exact .ofQuery (exec_scheduleGet ..)
  case areaWatch => exact .ofLocal (exec_areaWatch ..) fun _ => rfl
  case bulletinRegister => exact .ofLocal (exec_bulletinRegister ..) fun _ => ageRegister_ports ..
  case speciesSet => exact .ofLocal (exec_speciesSet ..) fun _ => takeSpeciesSet_ports ..
  case speciesClear => exact .ofLocal (exec_speciesClear ..) fun _ => takeSpeciesClear_ports ..
  case speciesGet => exact .ofQuery (exec_speciesGet ..)
  case factorSet => exact .ofLocal (exec_factorSet ..) fun _ => takeFactorSet_ports ..
  case factorClear => exact .ofLocal (exec_factorClear ..) fun _ => takeFactorClear_ports ..
  case factorGet => exact .ofQuery (exec_factorGet ..)
  case postCatch => exact .ofLocal (exec_postCatch ..) fun _ => takePosting_ports ..
  case reportTimeSet => exact .ofLocal (exec_reportTimeSet ..) fun _ => takeReportTimeSet_ports ..
  case reportNow => exact .ofCommand (exec_reportNow ..) fun _ => takeReportNow_ports ..
  case tripStart => exact .ofLocal (exec_tripStart ..) fun _ => takeTripStart_ports ..
  case tally => exact .ofQuery (exec_tally ..)
  case distress => exact .ofCommand (exec_distress ..) fun _ => takeDistress_ports ..
  case distressCancel => exact .ofCommand (exec_distressCancel ..) fun _ => takeDistressCancel_ports ..
  case distressClose => exact .ofCommand (exec_distressClose ..) fun _ => takeDistressClose_ports ..
  case alarmAck => exact .ofLocal (exec_alarmAck ..) fun _ => takeAlarmAck_ports ..
  case distressList => exact .ofQuery (exec_distressList ..)
  case radioRestore => exact .ofCommand (exec_radioRestore ..) fun _ => restoreRadios_ports ..
  case radioStatus => exact .ofQuery (exec_radioStatus ..)
  case grantSet => exact .ofQueues (exec_grantSet ..) fun _ => takeGrantSet_queues ..
  case distressLevelSet => exact .ofLocal (exec_distressLevelSet ..) fun _ => rfl
  case shipSet => exact .ofLocal (exec_shipSet ..) fun _ => takeShipSet_ports ..
  case routeSet => exact .ofQueues (exec_routeSet ..) fun _ => updPort_queues _ _ (f := .route _) fun _ => rfl
  case poll => exact .ofQueues (exec_poll ..) fun _ => takePoll_queues ..
  case status => exact .ofQueues (exec_status ..) fun _ => updPort_queues _ _ (f := .clearFrameError) fun _ => rfl
  case saveSettings => exact .ofLocal (exec_saveSettings ..) fun _ => takeSaveSettings_ports ..
  case restart => exact .ofQueues (exec_restart ..) fun _ => takeRestart_queues ..
  case unknownRequest => exact .ofQuery (exec_unknownRequest ..)

/-- Settles O11: the effects of a request leave the queues alone, so its answer and its notices alone join them. -/
theorem requestAnsweredOnce : Obligations.RequestAnsweredOnce := by
  unfold Obligations.RequestAnsweredOnce
  intro c k r s kind on
  obtain ⟨work, f, worked, effect, e⟩ := request_leavesQueues kind s
  obtain ⟨t, a, next, own, others⟩ := requestWith_answers worked effect on k r
  exact ⟨t, a, e.trans next, own, others⟩

end Sys2Proof.Machine.ConsolePorts
end

/-! Proofs about the console ports: receivers, grants, identity, routing, POLL and STATUS (R199 to R209, R215). -/
section

namespace Sys2Proof.Machine.ConsolePorts

/-! ### A port changes -/

section
variable {s : State} {p : Port} {f : PortState → PortState}

theorem updPort_fixed (h : f (s.ports.get p) = s.ports.get p) : s.updPort p f = s := by
  rw [State.updPort, h, PerPort.set_get]

/-- A change of a port that leaves its receiver alone goes with the arrival of a frame in either order. -/
theorem updPort_taken (h : ∀ q, f q.frameEnds = (f q).frameEnds) (r : Req) :
    (s.taken r).updPort p f = (s.updPort p f).taken r := by
  unfold State.updPort State.taken
  by_cases same : p = r.port
  · subst same
    simp only [PerPort.get_set_self, PerPort.set_set_self, h]
  · simp only [PerPort.get_set_ne _ _ _ _ same, PerPort.get_set_ne _ _ _ _ (Ne.symm same),
      PerPort.set_comm _ _ _ _ _ same]

/-- An event of a port alone. -/
theorem portEvent_next (settled : s.Settled) (on : s.phase ≠ .off) {q : PortState} (h : f (s.ports.get p) = q) :
    localEvent s (fun t => t.updPort p f) = .next { s with ports := s.ports.set p q } :=
  localEvent_quiet settled on _ (by rw [State.updPort, h]) settled rfl

/-- An event that finds nothing to change in its port. -/
theorem portEvent_idle (settled : s.Settled) (on : s.phase ≠ .off) (h : f (s.ports.get p) = s.ports.get p) :
    localEvent s (fun t => t.updPort p f) = .next s :=
  localEvent_quiet settled on _ (updPort_fixed h) settled rfl

end

/-! ### The receivers (R199, R201, R215) -/

section
variable {q : PortState}

theorem gap_of_hunting (h : q.hunting = true) : q.gap = q := if_pos h

theorem gap_of_reading (h : q.hunting = false) : q.gap = q.badFrame := if_neg (by simp [h])

theorem discard_of_freshHunt (hunts : q.hunting = true) (fresh : q.freshHunt = true) :
    q.discard = { q with freshHunt := false, frameError := true } := if_pos (by simp [hunts, fresh])

theorem discard_of_stale (h : q.hunting = false ∨ q.freshHunt = false) : q.discard = q :=
  if_neg (by rcases h with h | h <;> simp [h])

theorem frameSent_of_cons {frame : OutFrame} {rest : List OutFrame} (h : q.outQ = frame :: rest) :
    q.frameSent = { q with outQ := rest } := by rw [PortState.frameSent, h, List.tail_cons]

theorem frameSent_of_nil (h : q.outQ = []) : q.frameSent = q := by
  cases q
  subst h
  rfl

end

/-- Settles O43: each event is the change of one port's receiver or queue, or of one link receiver. -/
theorem receiversHuntAndRead : Obligations.ReceiversHuntAndRead := by
  unfold Obligations.ReceiversHuntAndRead
  intro s settled on
  have linkEvent (input : LinkInput) (v : RxState) :
      localEvent s (fun t => t.setLinkRx input v) = .next (s.setLinkRx input v) :=
    localEvent_quiet settled on _ rfl (by cases input <;> exact settled) (by cases input <;> rfl)
  refine ⟨?ports, ?_, ?_, ?_, ?_⟩
  case ports =>
    intro p old bad
    refine ⟨?badFrame, fun reading => ?gap, fun hunting => ?noGap, ?start, fun hunting fresh => ?discard,
      fun stale => ?noDiscard, fun frame rest queue => ?sent, fun empty => ?noneSent⟩
    case badFrame => exact portEvent_next settled on rfl
    case gap => exact portEvent_next settled on (gap_of_reading reading)
    case noGap => exact portEvent_idle settled on (gap_of_hunting hunting)
    case start => exact portEvent_next settled on rfl
    case discard => exact portEvent_next settled on (discard_of_freshHunt hunting fresh)
    case noDiscard => exact portEvent_idle settled on (discard_of_stale stale)
    case sent => exact portEvent_next settled on (frameSent_of_cons queue)
    case noneSent => exact portEvent_idle settled on (frameSent_of_nil empty)
  · exact (exec_linkStartByte .control s).trans (linkEvent .control .reading)
  · exact (exec_linkStartByte .navigation s).trans (linkEvent .navigation .reading)
  · exact (exec_linkInterByteTimeout .control s).trans (linkEvent .control .searching)
  · exact (exec_linkInterByteTimeout .navigation s).trans (linkEvent .navigation .searching)

/-! ### Grants held, as a set (R202, R203, R209) -/

theorem getLsbD_one_shiftLeft (k : Nat) {n : Nat} (small : n < 16) : (1#16 <<< k).getLsbD n = (k == n) := by
  simp only [BitVec.getLsbD_shiftLeft, BitVec.getLsbD_one, small]
  by_cases h : k = n
  · simp [h]
  · by_cases below : n < k
    · simp [h, below]
    · have above : n - k ≠ 0 := by omega
      simp [h, above]

/-- A bit of a mask built from a list of grants is set for a grant of the list that is held. -/
theorem getLsbD_foldl_grants (held : Grant → Bool) (n : Nat) (l : List Grant) (m : Half) (small : n < 16) :
    (l.foldl (fun m g => if held g then m ||| (1#16 <<< g.bit) else m) m).getLsbD n =
      (m.getLsbD n || l.any fun g => held g && g.bit == n) := by
  induction l generalizing m with
  | nil => simp
  | cons g l ih =>
    rw [List.foldl_cons, ih, List.any_cons]
    cases held g
    · simp
    · simp [getLsbD_one_shiftLeft _ small, Bool.or_assoc]

theorem getLsbD_held (p : PortState) (level : Nat) (g : Grant) : (p.held level).getLsbD g.bit = p.holds level g := by
  have small : g.bit < 16 := by cases g <;> decide
  rw [PortState.held, getLsbD_foldl_grants _ _ _ _ small]
  cases g <;> simp [Grant.every, Grant.bit]

/-- The arrival of a frame shows only in the receiver of its port. -/
theorem port_taken {α : Type} {g : PortState → α} (h : ∀ q, g q.frameEnds = g q) (s : State) (r : Req) (p : Port) :
    g ((s.taken r).ports.get p) = g (s.ports.get p) := by
  unfold State.taken
  by_cases same : p = r.port
  · subst same
    rw [PerPort.get_set_self, h]
  · rw [PerPort.get_set_ne _ _ _ _ same]

/-! ### GRANT-SET, DISTRESS-LEVEL-SET and SHIP-SET (R203 to R205) -/

/-- A request that changes one port, but not its receiver. -/
theorem portRequest_next {s : State} {k : ReqKind} {r : Req} {a : Answer} {p : Port} {f : PortState → PortState}
    (settled : s.Settled) (passes : s.Passes k r) (known : ∀ n, k ≠ .other n)
    (receiver : ∀ q, f q.frameEnds = (f q).frameEnds) {take : State → State × Answer}
    (taken : take (s.taken r) = ((s.taken r).updPort p f, a)) :
    localRequest k r s take = .next ((s.updPort p f).answered k r a []) :=
  CatchAndSaves.localRequest_silent settled passes known take (taken.trans (by rw [updPort_taken receiver])) settled rfl

/-- The map of a port takes the given bits under a mask. -/
def editMap (mask given : Half) (q : PortState) : PortState := { q with map := editedMap mask given q.map }

theorem takeGrantSet_of_none {s : State} {port : Nat} (h : Port.ofNumber port = none) (requester : Port)
    (given : Half) : s.takeGrantSet requester port given = (s, plain .badArgument) := by
  simp only [State.takeGrantSet, h]

theorem takeGrantSet_of_port {s : State} {port : Nat} {p : Port} (h : Port.ofNumber port = some p) (requester : Port)
    (given : Half) :
    let mask := (s.ports.get requester).held s.settings.distressLevel
    s.takeGrantSet requester port given = (s.updPort p (editMap mask given),
      ⟨if mask = 0xFFFF then .ok else .partly, .grants mask (editedMap mask given (s.ports.get p).map)⟩) := by
  simp only [State.takeGrantSet, h, State.updPort, editMap]

theorem takeShipSet_of_alert {s : State} (h : s.distress.state ≠ .quiet) (number : Nat) (name callSign : List Byte) :
    s.takeShipSet number name callSign = (s, plain .distressActive) := if_pos h

theorem takeShipSet_of_range {s : State} (quiet : s.distress.state = .quiet) {number : Nat}
    (h : ¬(1000000 ≤ number ∧ number ≤ 9999999)) (name callSign : List Byte) :
    s.takeShipSet number name callSign = (s, plain .badArgument) := by
  have range : shipInRange number = false := by
    rw [shipInRange, ← Bool.decide_and]
    exact decide_eq_false h
  simp [State.takeShipSet, quiet, range]

theorem takeShipSet_of_good {s : State} (quiet : s.distress.state = .quiet) {number : Nat} (low : 1000000 ≤ number)
    (high : number ≤ 9999999) (name callSign : List Byte) :
    let cuts := (if 16 < name.length then [Change.nameCut] else []) ++
      if 8 < callSign.length then [Change.callSignCut] else []
    s.takeShipSet number name callSign = ({ s with
      settings.identity := {
        number := number, name := (name.map normByte).take 16, callSign := (callSign.map normByte).take 8 }
      settings.defaulted := false }, if cuts = [] then plain .ok else ⟨.partly, .changes cuts⟩) := by
  have range : shipInRange number = true := by simp [shipInRange, low, high]
  simp only [State.takeShipSet, quiet, range, okWith, List.isEmpty_iff]
  rfl

/-- Settles O41: what each of the three requests does to the state that its frame finds. -/
theorem grantsLevelAndShipSet : Obligations.GrantsLevelAndShipSet := by
  unfold Obligations.GrantsLevelAndShipSet
  refine ⟨fun s r settled => ⟨?grants, ?level, ?ship⟩, getLsbD_held⟩
  case grants =>
    intro passes port given mask
    rw [exec_grantSet]
    refine ⟨fun h => ?none, ?some⟩
    case none => exact localRequest_refused settled passes nofun _ (takeGrantSet_of_none h r.port given)
    case some =>
      intro p h map
      have held : ((s.taken r).ports.get r.port).held s.settings.distressLevel = mask :=
        port_taken (g := PortState.held _) (fun _ => rfl) s r r.port
      have map_old : ((s.taken r).ports.get p).map = (s.ports.get p).map :=
        port_taken (g := PortState.map) (fun _ => rfl) s r p
      have taken := takeGrantSet_of_port (s := s.taken r) h r.port given
      rw [show (s.taken r).settings = s.settings from rfl, held, map_old] at taken
      exact portRequest_next (p := p) (f := editMap mask given) settled passes nofun (fun _ => rfl) taken
  case level =>
    intro passes level
    rw [exec_distressLevelSet]
    have floor : min level 3 = if 3 < level then 3 else level := by split <;> omega
    have answer : okWith (if 3 < level then [Change.levelClamped] else []) =
        if 3 < level then ⟨.partly, .changes [.levelClamped]⟩ else plain .ok := by split <;> rfl
    rw [← floor, ← answer]
    exact CatchAndSaves.localRequest_silent settled passes nofun _ rfl settled rfl
  case ship =>
    intro passes number name callSign cuts
    rw [exec_shipSet]
    refine ⟨fun alert => ?_, fun quiet range => ?_, fun quiet low high => ?_⟩
    · exact localRequest_refused settled passes nofun _ (takeShipSet_of_alert (s := s.taken r) alert ..)
    · exact localRequest_refused settled passes nofun _ (takeShipSet_of_range (s := s.taken r) quiet range ..)
    · exact CatchAndSaves.localRequest_silent settled passes nofun _
        (takeShipSet_of_good (s := s.taken r) quiet low high name callSign) settled rfl

/-! ### Notices taken by a port (R201, R206) -/

theorem kind_lt (n : Notice) : n.kind < 24 := by cases n <;> simp [Notice.kind]

/-- The flag of a notice of kinds 8 to 23. -/
theorem flag_set {n : Notice} (h : 8 ≤ n.kind) : (1#16 <<< (n.kind - 8)).getLsbD (n.kind - 8) = true := by
  have := kind_lt n
  rw [getLsbD_one_shiftLeft _ (by omega), beq_self_eq_true]

theorem take_of_optional {n : Notice} (h : 8 ≤ n.kind) (q : PortState) : q.take n =
    if q.choices.getLsbD (n.kind - 8) = true then
      (if q.outQ.length < 48 then { q with outQ := q.outQ ++ [.notice n] }
      else { q with flags := q.flags ||| (1#16 <<< (n.kind - 8)), overrun := true })
    else { q with flags := q.flags ||| (1#16 <<< (n.kind - 8)) } := if_neg (Nat.not_lt.2 h)

theorem take_flags_of_unrouted {n : Notice} (h : 8 ≤ n.kind) {q : PortState}
    (unrouted : q.choices.getLsbD (n.kind - 8) = false) : (q.take n).flags = q.flags ||| (1#16 <<< (n.kind - 8)) := by
  rw [take_of_optional h, if_neg (by simp [unrouted])]

/-! ### ROUTE-SET, POLL and STATUS (R207 to R209) -/

/-- A port whose request has been received and answered. -/
def answeredPort (q : PortState) (tag : Byte) (k : ReqKind) (a : Answer) : PortState :=
  { q with hunting := true, freshHunt := true, outQ := q.outQ ++ [.answer tag k a] }

/-- An answer with no notice shows only in the port that asked. -/
theorem answered_of_silent (s : State) (k : ReqKind) (r : Req) (a : Answer) :
    s.answered k r a [] = { s with ports := s.ports.set r.port (answeredPort (s.ports.get r.port) r.tag k a) } := by
  simp only [State.answered, noticed_nil, State.reply, State.taken, PerPort.get_set_self, PerPort.set_set_self,
    PortState.enqueue, PortState.frameEnds, answeredPort]

/-- A request about its own port, which is answered in it. -/
theorem ownPortRequest_next {s : State} {k : ReqKind} {r : Req} {a : Answer} {f : PortState → PortState}
    (settled : s.Settled) (passes : s.Passes k r) (known : ∀ n, k ≠ .other n)
    (receiver : ∀ q, f q.frameEnds = (f q).frameEnds) {take : State → State × Answer}
    (taken : take (s.taken r) = ((s.taken r).updPort r.port f, a)) :
    localRequest k r s take =
      .next { s with ports := s.ports.set r.port (answeredPort (f (s.ports.get r.port)) r.tag k a) } := by
  rw [portRequest_next settled passes known receiver taken, answered_of_silent]
  simp only [State.updPort, PerPort.get_set_self, PerPort.set_set_self]

theorem takePoll_of_clear {s : State} {p : Port} (flags : (s.ports.get p).flags = 0)
    (overrun : (s.ports.get p).overrun = false) : s.takePoll p = (s.updPort p PortState.pollEnds, plain .empty) := by
  have fixed : (s.ports.get p).pollEnds = s.ports.get p := by
    rw [PortState.pollEnds, ← flags, ← overrun]
  rw [updPort_fixed fixed]
  exact if_pos ⟨flags, by simp [overrun]⟩

theorem takePoll_of_marked {s : State} {p : Port}
    (h : (s.ports.get p).flags ≠ 0 ∨ (s.ports.get p).overrun = true) : s.takePoll p =
      (s.updPort p PortState.pollEnds, ⟨.ok, .flags (s.ports.get p).flags (s.ports.get p).overrun⟩) :=
  if_neg fun ⟨flags, overrun⟩ => by rcases h with h | h <;> simp_all

/-- A request for which no grant is asked and that no settings save refuses. -/
theorem passes_of_open {s : State} {k : ReqKind} {r : Req} (running : s.phase = .running) (fits : r.fits = true)
    (room : (s.ports.get r.port).outQ.length < 64) (free : k.grant = none)
    (image : k.image = true → s.settings.saveState = .idle) : s.Passes k r :=
  ⟨running, fits, by rw [free]; rfl, room, image⟩

/-- Settles O42: each request is its change of the port and its answer, and notices find the port as it left it. -/
theorem portsRoutePollStatus : Obligations.PortsRoutePollStatus := by
  unfold Obligations.PortsRoutePollStatus
  refine ⟨?route, ⟨?poll, fun n => flag_set⟩, ?status, getLsbD_held⟩
  case route =>
    intro s r kinds settled running fits room
    refine ⟨fun saving => ?refused, fun idle => ?routed⟩
    case refused =>
      have checks := refusal_of_running (k := .routeSet) running nofun r
      have refused : s.refusal .routeSet r = some .inUse := by
        simp [checks, fits, saving, ReqKind.grant, ReqKind.image]
      exact request_refused (c := .routeSet r kinds) rfl settled (by simp [running]) refused
    case routed =>
      intro old new
      have passes : s.Passes .routeSet r := passes_of_open running fits room rfl fun _ => idle
      refine ⟨?_, fun n high => take_of_optional high new⟩
      rw [exec_routeSet]
      exact ownPortRequest_next (f := PortState.route kinds) settled passes nofun (fun _ => rfl) rfl
  case poll =>
    intro s r settled running fits room old answered
    have passes : s.Passes .poll r := passes_of_open running fits room rfl nofun
    have flags : ((s.taken r).ports.get r.port).flags = old.flags :=
      port_taken (g := PortState.flags) (fun _ => rfl) s r r.port
    have overrun : ((s.taken r).ports.get r.port).overrun = old.overrun :=
      port_taken (g := PortState.overrun) (fun _ => rfl) s r r.port
    rw [exec_poll]
    refine ⟨fun noFlag noMark => ?clear, fun marked => ?marked, fun n a high unrouted => ⟨?before, ?after⟩⟩
    case clear =>
      exact ownPortRequest_next (f := PortState.pollEnds) settled passes nofun (fun _ => rfl)
        (takePoll_of_clear (flags.trans noFlag) (overrun.trans noMark))
    case marked =>
      have taken := takePoll_of_marked (s := s.taken r) (p := r.port) (by rwa [flags, overrun])
      rw [flags, overrun] at taken
      exact ownPortRequest_next (f := PortState.pollEnds) settled passes nofun (fun _ => rfl) taken
    case before => exact take_flags_of_unrouted high unrouted
    case after => exact (take_flags_of_unrouted (q := answered a) high unrouted).trans (BitVec.zero_or ..)
  case status =>
    intro s r settled running fits room old told
    have passes : s.Passes .status r := passes_of_open running fits room rfl nofun
    have told_eq : (s.taken r).answerStatus r.port = told := by
      unfold State.answerStatus State.taken
      rw [PerPort.get_set_self]
      rfl
    rw [exec_status]
    exact ownPortRequest_next (f := PortState.clearFrameError) settled passes nofun (fun _ => rfl) (by rw [told_eq])

end Sys2Proof.Machine.ConsolePorts
end

/-! Proofs about the queue of commands: what a step takes from it (00_scope.md). -/
section

namespace Sys2Proof.Machine.CommandQueue

/-- A step with a command waiting is the command's own effect, on the state that has it taken from the queue. -/
theorem step_of_pending {s : State} {c : Instr} {rest : List Instr} (waiting : s.pending = c :: rest) :
    step s = exec c { s with pending := rest } := by
  unfold step
  rw [waiting]

/-- Settles O1: the queue's own value before the step does not bear on it. -/
theorem stepTakesFrontCommand : Obligations.StepTakesFrontCommand := by
  unfold Obligations.StepTakesFrontCommand
  intro c rest s
  exact step_of_pending (s := { s with pending := c :: rest }) rfl

end Sys2Proof.Machine.CommandQueue
end
